-- ==== Sys2Proof/Word.lean ====
section
/-! DEFINITION. The two word types of the core (00_scope.md R5, R7): every register and memory value is
an unsigned 8-bit or 16-bit number, and all arithmetic on it wraps. -/

namespace Sys2Proof

/-- The spec's `u8`: a data register or one byte of memory (00_scope.md R5). -/
abbrev Byte := BitVec 8

/-- The spec's `u16` ("Byte2"): the program counter, an address, an operand word (00_scope.md R5). -/
abbrev Word := BitVec 16

end Sys2Proof
end

