-- ==== Sys2Proof/Config.lean ====
section
/-! DEFINITION. The implementation parameters of 00_scope.md R6 that the spec decides for this hardware.
`Machine.params` (Machine/Ops.lean) says which values the model runs with. The launch arguments of R6
(POWER_ON_REGS, MEM_INIT, END_PC) are fields of `Machine.Launch`. -/

namespace Sys2Proof

/-- What ADC and SBC do when D = 1 (00_scope.md R6, 41_alu.md R161). -/
inductive DecimalPolicy where
  /-- D is ignored: the default, and what this hardware does. -/
  | binary
  /-- The model refuses the step: a setting for models that must claim nothing of such steps. -/
  | refuse
deriving DecidableEq, Repr

/-- The named parameters of 00_scope.md R6. -/
structure Params where
  /-- VEC_NMI: address of the NMI vector's low byte. -/
  vecNmi : Word
  /-- VEC_RESET: address of the reset vector's low byte. -/
  vecReset : Word
  /-- VEC_IRQ: address of the IRQ/BRK vector's low byte. -/
  vecIrq : Word
  /-- ZP_PTR_WRAP: the high byte of a zero-page pointer wraps inside zero page (40_addressing.md R130). -/
  zpPtrWrap : Bool
  /-- JMP_IND_PAGE_WRAP: the high byte of JMP's pointer stays in the pointer's page (40_addressing.md R132). -/
  jmpIndPageWrap : Bool
  /-- DECIMAL_POLICY. -/
  decimalPolicy : DecimalPolicy
deriving DecidableEq, Repr

/-- The values 00_scope.md R6 gives (decisions D4, D6, D7 and D8 of 92_eei_decisions.md).
DESIGN CHOICE, log entry 5 (unsafe): the spec calls them its own decisions. -/
def specParams : Params where
  vecNmi := 0xFFFA#16
  vecReset := 0xFFFC#16
  vecIrq := 0xFFFE#16
  zpPtrWrap := true
  jmpIndPageWrap := true
  decimalPolicy := .binary

end Sys2Proof
end

