-- ==== Sys2Proof/Syntax.lean ====
section
/-! DEFINITION. The instructions: one constructor for each of the 151 legal rows of spec/opcode_table.json, and
one for its 105 ILLEGAL rows, which differ in the byte alone (log entry 11). A constructor carries the operand
that its mode reads (30_encoding.md R93): `v` an immediate value, `z` a zero-page address, `w` an operand word,
`off` a branch offset. -/

namespace Sys2Proof

/-- An instruction as the decoder yields it: one operation paired with one of its legal addressing modes
and the operand payload (00_scope.md R12, 30_encoding.md R91), or an illegal opcode byte (R92). -/
inductive Instr where
  /-- ADC immediate, 0x69 (R150). -/
  | adcImm (v : Byte)
  /-- ADC zero page, 0x65 (R150). -/
  | adcZp (z : Byte)
  /-- ADC zero page,X, 0x75 (R150). -/
  | adcZpX (z : Byte)
  /-- ADC absolute, 0x6D (R150). -/
  | adcAbs (w : Word)
  /-- ADC absolute,X, 0x7D (R150). -/
  | adcAbsX (w : Word)
  /-- ADC absolute,Y, 0x79 (R150). -/
  | adcAbsY (w : Word)
  /-- ADC (zp,X), 0x61 (R150). -/
  | adcIzX (z : Byte)
  /-- ADC (zp),Y, 0x71 (R150). -/
  | adcIzY (z : Byte)
  /-- SBC immediate, 0xE9 (R151). -/
  | sbcImm (v : Byte)
  /-- SBC zero page, 0xE5 (R151). -/
  | sbcZp (z : Byte)
  /-- SBC zero page,X, 0xF5 (R151). -/
  | sbcZpX (z : Byte)
  /-- SBC absolute, 0xED (R151). -/
  | sbcAbs (w : Word)
  /-- SBC absolute,X, 0xFD (R151). -/
  | sbcAbsX (w : Word)
  /-- SBC absolute,Y, 0xF9 (R151). -/
  | sbcAbsY (w : Word)
  /-- SBC (zp,X), 0xE1 (R151). -/
  | sbcIzX (z : Byte)
  /-- SBC (zp),Y, 0xF1 (R151). -/
  | sbcIzY (z : Byte)
  /-- AND immediate, 0x29 (R152). -/
  | andImm (v : Byte)
  /-- AND zero page, 0x25 (R152). -/
  | andZp (z : Byte)
  /-- AND zero page,X, 0x35 (R152). -/
  | andZpX (z : Byte)
  /-- AND absolute, 0x2D (R152). -/
  | andAbs (w : Word)
  /-- AND absolute,X, 0x3D (R152). -/
  | andAbsX (w : Word)
  /-- AND absolute,Y, 0x39 (R152). -/
  | andAbsY (w : Word)
  /-- AND (zp,X), 0x21 (R152). -/
  | andIzX (z : Byte)
  /-- AND (zp),Y, 0x31 (R152). -/
  | andIzY (z : Byte)
  /-- ORA immediate, 0x09 (R153). -/
  | oraImm (v : Byte)
  /-- ORA zero page, 0x05 (R153). -/
  | oraZp (z : Byte)
  /-- ORA zero page,X, 0x15 (R153). -/
  | oraZpX (z : Byte)
  /-- ORA absolute, 0x0D (R153). -/
  | oraAbs (w : Word)
  /-- ORA absolute,X, 0x1D (R153). -/
  | oraAbsX (w : Word)
  /-- ORA absolute,Y, 0x19 (R153). -/
  | oraAbsY (w : Word)
  /-- ORA (zp,X), 0x01 (R153). -/
  | oraIzX (z : Byte)
  /-- ORA (zp),Y, 0x11 (R153). -/
  | oraIzY (z : Byte)
  /-- EOR immediate, 0x49 (R154). -/
  | eorImm (v : Byte)
  /-- EOR zero page, 0x45 (R154). -/
  | eorZp (z : Byte)
  /-- EOR zero page,X, 0x55 (R154). -/
  | eorZpX (z : Byte)
  /-- EOR absolute, 0x4D (R154). -/
  | eorAbs (w : Word)
  /-- EOR absolute,X, 0x5D (R154). -/
  | eorAbsX (w : Word)
  /-- EOR absolute,Y, 0x59 (R154). -/
  | eorAbsY (w : Word)
  /-- EOR (zp,X), 0x41 (R154). -/
  | eorIzX (z : Byte)
  /-- EOR (zp),Y, 0x51 (R154). -/
  | eorIzY (z : Byte)
  /-- ASL accumulator, 0x0A (R155). -/
  | aslAcc
  /-- ASL zero page, 0x06 (R155). -/
  | aslZp (z : Byte)
  /-- ASL zero page,X, 0x16 (R155). -/
  | aslZpX (z : Byte)
  /-- ASL absolute, 0x0E (R155). -/
  | aslAbs (w : Word)
  /-- ASL absolute,X, 0x1E (R155). -/
  | aslAbsX (w : Word)
  /-- LSR accumulator, 0x4A (R156). -/
  | lsrAcc
  /-- LSR zero page, 0x46 (R156). -/
  | lsrZp (z : Byte)
  /-- LSR zero page,X, 0x56 (R156). -/
  | lsrZpX (z : Byte)
  /-- LSR absolute, 0x4E (R156). -/
  | lsrAbs (w : Word)
  /-- LSR absolute,X, 0x5E (R156). -/
  | lsrAbsX (w : Word)
  /-- ROL accumulator, 0x2A (R157). -/
  | rolAcc
  /-- ROL zero page, 0x26 (R157). -/
  | rolZp (z : Byte)
  /-- ROL zero page,X, 0x36 (R157). -/
  | rolZpX (z : Byte)
  /-- ROL absolute, 0x2E (R157). -/
  | rolAbs (w : Word)
  /-- ROL absolute,X, 0x3E (R157). -/
  | rolAbsX (w : Word)
  /-- ROR accumulator, 0x6A (R158). -/
  | rorAcc
  /-- ROR zero page, 0x66 (R158). -/
  | rorZp (z : Byte)
  /-- ROR zero page,X, 0x76 (R158). -/
  | rorZpX (z : Byte)
  /-- ROR absolute, 0x6E (R158). -/
  | rorAbs (w : Word)
  /-- ROR absolute,X, 0x7E (R158). -/
  | rorAbsX (w : Word)
  /-- BIT zero page, 0x24 (R159). -/
  | bitZp (z : Byte)
  /-- BIT absolute, 0x2C (R159). -/
  | bitAbs (w : Word)
  /-- LDA immediate, 0xA9 (R180). -/
  | ldaImm (v : Byte)
  /-- LDA zero page, 0xA5 (R180). -/
  | ldaZp (z : Byte)
  /-- LDA zero page,X, 0xB5 (R180). -/
  | ldaZpX (z : Byte)
  /-- LDA absolute, 0xAD (R180). -/
  | ldaAbs (w : Word)
  /-- LDA absolute,X, 0xBD (R180). -/
  | ldaAbsX (w : Word)
  /-- LDA absolute,Y, 0xB9 (R180). -/
  | ldaAbsY (w : Word)
  /-- LDA (zp,X), 0xA1 (R180). -/
  | ldaIzX (z : Byte)
  /-- LDA (zp),Y, 0xB1 (R180). -/
  | ldaIzY (z : Byte)
  /-- LDX immediate, 0xA2 (R181). -/
  | ldxImm (v : Byte)
  /-- LDX zero page, 0xA6 (R181). -/
  | ldxZp (z : Byte)
  /-- LDX zero page,Y, 0xB6 (R181). -/
  | ldxZpY (z : Byte)
  /-- LDX absolute, 0xAE (R181). -/
  | ldxAbs (w : Word)
  /-- LDX absolute,Y, 0xBE (R181). -/
  | ldxAbsY (w : Word)
  /-- LDY immediate, 0xA0 (R182). -/
  | ldyImm (v : Byte)
  /-- LDY zero page, 0xA4 (R182). -/
  | ldyZp (z : Byte)
  /-- LDY zero page,X, 0xB4 (R182). -/
  | ldyZpX (z : Byte)
  /-- LDY absolute, 0xAC (R182). -/
  | ldyAbs (w : Word)
  /-- LDY absolute,X, 0xBC (R182). -/
  | ldyAbsX (w : Word)
  /-- STA zero page, 0x85 (R183). -/
  | staZp (z : Byte)
  /-- STA zero page,X, 0x95 (R183). -/
  | staZpX (z : Byte)
  /-- STA absolute, 0x8D (R183). -/
  | staAbs (w : Word)
  /-- STA absolute,X, 0x9D (R183). -/
  | staAbsX (w : Word)
  /-- STA absolute,Y, 0x99 (R183). -/
  | staAbsY (w : Word)
  /-- STA (zp,X), 0x81 (R183). -/
  | staIzX (z : Byte)
  /-- STA (zp),Y, 0x91 (R183). -/
  | staIzY (z : Byte)
  /-- STX zero page, 0x86 (R184). -/
  | stxZp (z : Byte)
  /-- STX zero page,Y, 0x96 (R184). -/
  | stxZpY (z : Byte)
  /-- STX absolute, 0x8E (R184). -/
  | stxAbs (w : Word)
  /-- STY zero page, 0x84 (R185). -/
  | styZp (z : Byte)
  /-- STY zero page,X, 0x94 (R185). -/
  | styZpX (z : Byte)
  /-- STY absolute, 0x8C (R185). -/
  | styAbs (w : Word)
  /-- INC zero page, 0xE6 (R200). -/
  | incZp (z : Byte)
  /-- INC zero page,X, 0xF6 (R200). -/
  | incZpX (z : Byte)
  /-- INC absolute, 0xEE (R200). -/
  | incAbs (w : Word)
  /-- INC absolute,X, 0xFE (R200). -/
  | incAbsX (w : Word)
  /-- DEC zero page, 0xC6 (R201). -/
  | decZp (z : Byte)
  /-- DEC zero page,X, 0xD6 (R201). -/
  | decZpX (z : Byte)
  /-- DEC absolute, 0xCE (R201). -/
  | decAbs (w : Word)
  /-- DEC absolute,X, 0xDE (R201). -/
  | decAbsX (w : Word)
  /-- INX implied, 0xE8 (R202). -/
  | inx
  /-- INY implied, 0xC8 (R203). -/
  | iny
  /-- DEX implied, 0xCA (R204). -/
  | dex
  /-- DEY implied, 0x88 (R205). -/
  | dey
  /-- CMP immediate, 0xC9 (R220). -/
  | cmpImm (v : Byte)
  /-- CMP zero page, 0xC5 (R220). -/
  | cmpZp (z : Byte)
  /-- CMP zero page,X, 0xD5 (R220). -/
  | cmpZpX (z : Byte)
  /-- CMP absolute, 0xCD (R220). -/
  | cmpAbs (w : Word)
  /-- CMP absolute,X, 0xDD (R220). -/
  | cmpAbsX (w : Word)
  /-- CMP absolute,Y, 0xD9 (R220). -/
  | cmpAbsY (w : Word)
  /-- CMP (zp,X), 0xC1 (R220). -/
  | cmpIzX (z : Byte)
  /-- CMP (zp),Y, 0xD1 (R220). -/
  | cmpIzY (z : Byte)
  /-- CPX immediate, 0xE0 (R221). -/
  | cpxImm (v : Byte)
  /-- CPX zero page, 0xE4 (R221). -/
  | cpxZp (z : Byte)
  /-- CPX absolute, 0xEC (R221). -/
  | cpxAbs (w : Word)
  /-- CPY immediate, 0xC0 (R222). -/
  | cpyImm (v : Byte)
  /-- CPY zero page, 0xC4 (R222). -/
  | cpyZp (z : Byte)
  /-- CPY absolute, 0xCC (R222). -/
  | cpyAbs (w : Word)
  /-- BPL relative, 0x10 (R240). -/
  | bpl (off : Byte)
  /-- BMI relative, 0x30 (R241). -/
  | bmi (off : Byte)
  /-- BVC relative, 0x50 (R242). -/
  | bvc (off : Byte)
  /-- BVS relative, 0x70 (R243). -/
  | bvs (off : Byte)
  /-- BCC relative, 0x90 (R244). -/
  | bcc (off : Byte)
  /-- BCS relative, 0xB0 (R245). -/
  | bcs (off : Byte)
  /-- BNE relative, 0xD0 (R246). -/
  | bne (off : Byte)
  /-- BEQ relative, 0xF0 (R247). -/
  | beq (off : Byte)
  /-- JMP absolute, 0x4C (R260). -/
  | jmpAbs (w : Word)
  /-- JMP (absolute), 0x6C (R261). -/
  | jmpInd (w : Word)
  /-- JSR absolute, 0x20 (R262). -/
  | jsr (w : Word)
  /-- RTS implied, 0x60 (R263). -/
  | rts
  /-- BRK implied, 0x00 (R264). -/
  | brk
  /-- RTI implied, 0x40 (R265). -/
  | rti
  /-- PHA implied, 0x48 (R284). -/
  | pha
  /-- PLA implied, 0x68 (R285). -/
  | pla
  /-- PHP implied, 0x08 (R286). -/
  | php
  /-- PLP implied, 0x28 (R287). -/
  | plp
  /-- TAX implied, 0xAA (R300). -/
  | tax
  /-- TXA implied, 0x8A (R301). -/
  | txa
  /-- TAY implied, 0xA8 (R302). -/
  | tay
  /-- TYA implied, 0x98 (R303). -/
  | tya
  /-- TSX implied, 0xBA (R304). -/
  | tsx
  /-- TXS implied, 0x9A (R305). -/
  | txs
  /-- CLC implied, 0x18 (R306). -/
  | clc
  /-- SEC implied, 0x38 (R307). -/
  | sec
  /-- CLI implied, 0x58 (R308). -/
  | cli
  /-- SEI implied, 0x78 (R309). -/
  | sei
  /-- CLD implied, 0xD8 (R310). -/
  | cld
  /-- SED implied, 0xF8 (R311). -/
  | sed
  /-- CLV implied, 0xB8 (R312). -/
  | clv
  /-- NOP implied, 0xEA (R313). -/
  | nop
  /-- An illegal opcode byte (30_encoding.md R92, 60_exceptions.md R360). -/
  | illegal (op : Byte)
deriving DecidableEq, Repr

end Sys2Proof
end

