-- ==== Sys2Proof/WellFormed.lean ====
section
/-! DEFINITION. Which instructions are well formed. Every legal row's constructor carries exactly the operand its
mode reads, so the only check is on `illegal`: its byte is one of the 105 that 30_encoding.md R92 lists. -/

namespace Sys2Proof

/-- The first half of the full list of 30_encoding.md R92. -/
def illegalBytesLow : List Byte :=
  [ 0x02#8, 0x03#8, 0x04#8, 0x07#8, 0x0B#8, 0x0C#8, 0x0F#8, 0x12#8, 0x13#8, 0x14#8,
    0x17#8, 0x1A#8, 0x1B#8, 0x1C#8, 0x1F#8, 0x22#8, 0x23#8, 0x27#8, 0x2B#8, 0x2F#8,
    0x32#8, 0x33#8, 0x34#8, 0x37#8, 0x3A#8, 0x3B#8, 0x3C#8, 0x3F#8, 0x42#8, 0x43#8,
    0x44#8, 0x47#8, 0x4B#8, 0x4F#8, 0x52#8, 0x53#8, 0x54#8, 0x57#8, 0x5A#8, 0x5B#8,
    0x5C#8, 0x5F#8, 0x62#8, 0x63#8, 0x64#8, 0x67#8, 0x6B#8, 0x6F#8, 0x72#8, 0x73#8,
    0x74#8, 0x77#8, 0x7A#8 ]

/-- The second half of that list. -/
def illegalBytesHigh : List Byte :=
  [ 0x7B#8, 0x7C#8, 0x7F#8, 0x80#8, 0x82#8, 0x83#8, 0x87#8, 0x89#8, 0x8B#8, 0x8F#8,
    0x92#8, 0x93#8, 0x97#8, 0x9B#8, 0x9C#8, 0x9E#8, 0x9F#8, 0xA3#8, 0xA7#8, 0xAB#8,
    0xAF#8, 0xB2#8, 0xB3#8, 0xB7#8, 0xBB#8, 0xBF#8, 0xC2#8, 0xC3#8, 0xC7#8, 0xCB#8,
    0xCF#8, 0xD2#8, 0xD3#8, 0xD4#8, 0xD7#8, 0xDA#8, 0xDB#8, 0xDC#8, 0xDF#8, 0xE2#8,
    0xE3#8, 0xE7#8, 0xEB#8, 0xEF#8, 0xF2#8, 0xF3#8, 0xF4#8, 0xF7#8, 0xFA#8, 0xFB#8,
    0xFC#8, 0xFF#8 ]

/-- The 105 illegal opcode bytes (30_encoding.md R92). -/
def illegalBytes : List Byte := illegalBytesLow ++ illegalBytesHigh

/-- An instruction is well formed unless it is `illegal` with a byte that decodes to an operation. -/
def Instr.wellFormed : Instr → Bool
  | .illegal op => illegalBytes.contains op
  | .adcImm _ | .adcZp _ | .adcZpX _ | .adcAbs _ | .adcAbsX _ | .adcAbsY _ | .adcIzX _ | .adcIzY _ => true
  | .sbcImm _ | .sbcZp _ | .sbcZpX _ | .sbcAbs _ | .sbcAbsX _ | .sbcAbsY _ | .sbcIzX _ | .sbcIzY _ => true
  | .andImm _ | .andZp _ | .andZpX _ | .andAbs _ | .andAbsX _ | .andAbsY _ | .andIzX _ | .andIzY _ => true
  | .oraImm _ | .oraZp _ | .oraZpX _ | .oraAbs _ | .oraAbsX _ | .oraAbsY _ | .oraIzX _ | .oraIzY _ => true
  | .eorImm _ | .eorZp _ | .eorZpX _ | .eorAbs _ | .eorAbsX _ | .eorAbsY _ | .eorIzX _ | .eorIzY _ => true
  | .aslAcc | .aslZp _ | .aslZpX _ | .aslAbs _ | .aslAbsX _ => true
  | .lsrAcc | .lsrZp _ | .lsrZpX _ | .lsrAbs _ | .lsrAbsX _ => true
  | .rolAcc | .rolZp _ | .rolZpX _ | .rolAbs _ | .rolAbsX _ => true
  | .rorAcc | .rorZp _ | .rorZpX _ | .rorAbs _ | .rorAbsX _ => true
  | .bitZp _ | .bitAbs _ => true
  | .ldaImm _ | .ldaZp _ | .ldaZpX _ | .ldaAbs _ | .ldaAbsX _ | .ldaAbsY _ | .ldaIzX _ | .ldaIzY _ => true
  | .ldxImm _ | .ldxZp _ | .ldxZpY _ | .ldxAbs _ | .ldxAbsY _ => true
  | .ldyImm _ | .ldyZp _ | .ldyZpX _ | .ldyAbs _ | .ldyAbsX _ => true
  | .staZp _ | .staZpX _ | .staAbs _ | .staAbsX _ | .staAbsY _ | .staIzX _ | .staIzY _ => true
  | .stxZp _ | .stxZpY _ | .stxAbs _ => true
  | .styZp _ | .styZpX _ | .styAbs _ => true
  | .incZp _ | .incZpX _ | .incAbs _ | .incAbsX _ => true
  | .decZp _ | .decZpX _ | .decAbs _ | .decAbsX _ => true
  | .inx => true
  | .iny => true
  | .dex => true
  | .dey => true
  | .cmpImm _ | .cmpZp _ | .cmpZpX _ | .cmpAbs _ | .cmpAbsX _ | .cmpAbsY _ | .cmpIzX _ | .cmpIzY _ => true
  | .cpxImm _ | .cpxZp _ | .cpxAbs _ => true
  | .cpyImm _ | .cpyZp _ | .cpyAbs _ => true
  | .bpl _ => true
  | .bmi _ => true
  | .bvc _ => true
  | .bvs _ => true
  | .bcc _ => true
  | .bcs _ => true
  | .bne _ => true
  | .beq _ => true
  | .jmpAbs _ | .jmpInd _ => true
  | .jsr _ => true
  | .rts => true
  | .brk => true
  | .rti => true
  | .pha => true
  | .pla => true
  | .php => true
  | .plp => true
  | .tax => true
  | .txa => true
  | .tay => true
  | .tya => true
  | .tsx => true
  | .txs => true
  | .clc => true
  | .sec => true
  | .cli => true
  | .sei => true
  | .cld => true
  | .sed => true
  | .clv => true
  | .nop => true

/-- `wellFormed` as a proposition. -/
abbrev WellFormed (i : Instr) : Prop := i.wellFormed = true

end Sys2Proof
end

