-- ==== Sys2Proof/Decode.lean ====
section
/-! DEFINITION. Instruction encoding (30_encoding.md): the opcode decoder by the group scheme of R83, operand
assembly (R93), lengths (R94), the views of an instruction as operation and addressing mode, and the encoder
written from the encoding tables R85 to R90. -/

namespace Sys2Proof

/-! ### Byte and word helpers (00_scope.md R7) -/

/-- `hi : lo`, with `hi` in the high bits. -/
def mkWord (hi lo : Byte) : Word := hi ++ lo

/-- `w[7:0]`. -/
def loByte (w : Word) : Byte := w.extractLsb' 0 8

/-- `w[15:8]`. -/
def hiByte (w : Word) : Byte := w.extractLsb' 8 8

/-- `zext_16`: widen with zero high bits. -/
def zext16 (b : Byte) : Word := b.setWidth 16

/-- `sext_16`: widen with bit 7 copied into bits 15..8. -/
def sext16 (b : Byte) : Word := b.signExtend 16

/-! ### Operations and addressing modes (30_encoding.md R84, R91) -/

/-- The 56 operations (30_encoding.md R84). -/
inductive Operation where
  | adc | sbc | and | ora | eor | asl | lsr | rol | ror | bit | lda | ldx | ldy | sta | stx | sty | inc | dec
  | inx | iny | dex | dey | cmp | cpx | cpy | bpl | bmi | bvc | bvs | bcc | bcs | bne | beq | jmp | jsr | rts
  | brk | rti | pha | pla | php | plp | tax | txa | tay | tya | tsx | txs | clc | sec | cli | sei | cld | sed
  | clv | nop
deriving DecidableEq, Repr

/-- The 13 addressing modes (30_encoding.md R84). -/
inductive AddressingModeKind where
  | accumulator | implied | immediate | zeroPage | zeroPageIndexedWithX | zeroPageIndexedWithY | absolute
  | absoluteIndexedWithX | absoluteIndexedWithY | absoluteIndirect | indexedIndirect | indirectIndexed
  | relative
deriving DecidableEq, Repr

/-- An addressing mode with its operand payload (00_scope.md R12); the names are the spec's short names. -/
inductive Operand where
  | acc | imp
  | imm (v : Byte) | zp (z : Byte) | zpX (z : Byte) | zpY (z : Byte)
  | abs (w : Word) | absX (w : Word) | absY (w : Word) | ind (w : Word)
  | izX (z : Byte) | izY (z : Byte) | rel (off : Byte)
deriving DecidableEq, Repr

/-- The legal modes of an operation (30_encoding.md R91). -/
def legalModes : Operation → List AddressingModeKind
  | .adc | .sbc | .and | .ora | .eor | .lda | .cmp =>
      [.immediate, .zeroPage, .zeroPageIndexedWithX, .absolute, .absoluteIndexedWithX, .absoluteIndexedWithY,
       .indexedIndirect, .indirectIndexed]
  | .asl | .lsr | .rol | .ror =>
      [.accumulator, .zeroPage, .zeroPageIndexedWithX, .absolute, .absoluteIndexedWithX]
  | .bit =>
      [.zeroPage, .absolute]
  | .ldx =>
      [.immediate, .zeroPage, .zeroPageIndexedWithY, .absolute, .absoluteIndexedWithY]
  | .ldy =>
      [.immediate, .zeroPage, .zeroPageIndexedWithX, .absolute, .absoluteIndexedWithX]
  | .sta =>
      [.zeroPage, .zeroPageIndexedWithX, .absolute, .absoluteIndexedWithX, .absoluteIndexedWithY, .indexedIndirect,
       .indirectIndexed]
  | .stx =>
      [.zeroPage, .zeroPageIndexedWithY, .absolute]
  | .sty =>
      [.zeroPage, .zeroPageIndexedWithX, .absolute]
  | .inc | .dec =>
      [.zeroPage, .zeroPageIndexedWithX, .absolute, .absoluteIndexedWithX]
  | .inx | .iny | .dex | .dey | .rts | .brk | .rti | .pha | .pla | .php | .plp | .tax | .txa | .tay | .tya
  | .tsx | .txs | .clc | .sec | .cli | .sei | .cld | .sed | .clv | .nop =>
      [.implied]
  | .cpx | .cpy =>
      [.immediate, .zeroPage, .absolute]
  | .bpl | .bmi | .bvc | .bvs | .bcc | .bcs | .bne | .beq =>
      [.relative]
  | .jmp =>
      [.absolute, .absoluteIndirect]
  | .jsr =>
      [.absolute]

/-- The number of operand bytes a mode reads: its length less the opcode byte (30_encoding.md R94). -/
def AddressingModeKind.operandBytes : AddressingModeKind → Nat
  | .accumulator | .implied => 0
  | .immediate | .zeroPage | .zeroPageIndexedWithX | .zeroPageIndexedWithY | .indexedIndirect
  | .indirectIndexed | .relative => 1
  | .absolute | .absoluteIndexedWithX | .absoluteIndexedWithY | .absoluteIndirect => 2

/-- `len(mode)` (30_encoding.md R94). -/
def AddressingModeKind.length (k : AddressingModeKind) : Nat := 1 + k.operandBytes

/-- The mode of an operand. -/
def Operand.kind : Operand → AddressingModeKind
  | .acc => .accumulator | .imp => .implied
  | .imm _ => .immediate | .zp _ => .zeroPage
  | .zpX _ => .zeroPageIndexedWithX | .zpY _ => .zeroPageIndexedWithY
  | .abs _ => .absolute | .absX _ => .absoluteIndexedWithX | .absY _ => .absoluteIndexedWithY
  | .ind _ => .absoluteIndirect
  | .izX _ => .indexedIndirect | .izY _ => .indirectIndexed | .rel _ => .relative

/-- The operand bytes in address order, a word low byte first (30_encoding.md R93). -/
def Operand.bytes : Operand → List Byte
  | .acc | .imp => []
  | .imm b | .zp b | .zpX b | .zpY b | .izX b | .izY b | .rel b => [b]
  | .abs w | .absX w | .absY w | .ind w => [loByte w, hiByte w]

/-! ### The views of an instruction -/

/-- The operation of an instruction; an illegal byte has none. -/
def Instr.operation : Instr → Option Operation
  | .adcImm _ | .adcZp _ | .adcZpX _ | .adcAbs _ | .adcAbsX _ | .adcAbsY _ | .adcIzX _ | .adcIzY _ => some .adc
  | .sbcImm _ | .sbcZp _ | .sbcZpX _ | .sbcAbs _ | .sbcAbsX _ | .sbcAbsY _ | .sbcIzX _ | .sbcIzY _ => some .sbc
  | .andImm _ | .andZp _ | .andZpX _ | .andAbs _ | .andAbsX _ | .andAbsY _ | .andIzX _ | .andIzY _ => some .and
  | .oraImm _ | .oraZp _ | .oraZpX _ | .oraAbs _ | .oraAbsX _ | .oraAbsY _ | .oraIzX _ | .oraIzY _ => some .ora
  | .eorImm _ | .eorZp _ | .eorZpX _ | .eorAbs _ | .eorAbsX _ | .eorAbsY _ | .eorIzX _ | .eorIzY _ => some .eor
  | .aslAcc | .aslZp _ | .aslZpX _ | .aslAbs _ | .aslAbsX _ => some .asl
  | .lsrAcc | .lsrZp _ | .lsrZpX _ | .lsrAbs _ | .lsrAbsX _ => some .lsr
  | .rolAcc | .rolZp _ | .rolZpX _ | .rolAbs _ | .rolAbsX _ => some .rol
  | .rorAcc | .rorZp _ | .rorZpX _ | .rorAbs _ | .rorAbsX _ => some .ror
  | .bitZp _ | .bitAbs _ => some .bit
  | .ldaImm _ | .ldaZp _ | .ldaZpX _ | .ldaAbs _ | .ldaAbsX _ | .ldaAbsY _ | .ldaIzX _ | .ldaIzY _ => some .lda
  | .ldxImm _ | .ldxZp _ | .ldxZpY _ | .ldxAbs _ | .ldxAbsY _ => some .ldx
  | .ldyImm _ | .ldyZp _ | .ldyZpX _ | .ldyAbs _ | .ldyAbsX _ => some .ldy
  | .staZp _ | .staZpX _ | .staAbs _ | .staAbsX _ | .staAbsY _ | .staIzX _ | .staIzY _ => some .sta
  | .stxZp _ | .stxZpY _ | .stxAbs _ => some .stx
  | .styZp _ | .styZpX _ | .styAbs _ => some .sty
  | .incZp _ | .incZpX _ | .incAbs _ | .incAbsX _ => some .inc
  | .decZp _ | .decZpX _ | .decAbs _ | .decAbsX _ => some .dec
  | .inx => some .inx
  | .iny => some .iny
  | .dex => some .dex
  | .dey => some .dey
  | .cmpImm _ | .cmpZp _ | .cmpZpX _ | .cmpAbs _ | .cmpAbsX _ | .cmpAbsY _ | .cmpIzX _ | .cmpIzY _ => some .cmp
  | .cpxImm _ | .cpxZp _ | .cpxAbs _ => some .cpx
  | .cpyImm _ | .cpyZp _ | .cpyAbs _ => some .cpy
  | .bpl _ => some .bpl
  | .bmi _ => some .bmi
  | .bvc _ => some .bvc
  | .bvs _ => some .bvs
  | .bcc _ => some .bcc
  | .bcs _ => some .bcs
  | .bne _ => some .bne
  | .beq _ => some .beq
  | .jmpAbs _ | .jmpInd _ => some .jmp
  | .jsr _ => some .jsr
  | .rts => some .rts
  | .brk => some .brk
  | .rti => some .rti
  | .pha => some .pha
  | .pla => some .pla
  | .php => some .php
  | .plp => some .plp
  | .tax => some .tax
  | .txa => some .txa
  | .tay => some .tay
  | .tya => some .tya
  | .tsx => some .tsx
  | .txs => some .txs
  | .clc => some .clc
  | .sec => some .sec
  | .cli => some .cli
  | .sei => some .sei
  | .cld => some .cld
  | .sed => some .sed
  | .clv => some .clv
  | .nop => some .nop
  | .illegal _ => none

/-- The addressing mode of an instruction with its payload (`imp` for an illegal byte, which reads none). -/
def Instr.operand : Instr → Operand
  | .aslAcc | .lsrAcc | .rolAcc | .rorAcc => .acc
  | .inx | .iny | .dex | .dey | .rts | .brk | .rti | .pha | .pla | .php | .plp | .tax | .txa | .tay | .tya
  | .tsx | .txs | .clc | .sec | .cli | .sei | .cld | .sed | .clv | .nop | .illegal _ => .imp
  | .adcImm v | .sbcImm v | .andImm v | .oraImm v | .eorImm v | .ldaImm v | .ldxImm v | .ldyImm v | .cmpImm v
  | .cpxImm v | .cpyImm v => .imm v
  | .adcZp z | .sbcZp z | .andZp z | .oraZp z | .eorZp z | .aslZp z | .lsrZp z | .rolZp z | .rorZp z | .bitZp z
  | .ldaZp z | .ldxZp z | .ldyZp z | .staZp z | .stxZp z | .styZp z | .incZp z | .decZp z | .cmpZp z | .cpxZp z
  | .cpyZp z => .zp z
  | .adcZpX z | .sbcZpX z | .andZpX z | .oraZpX z | .eorZpX z | .aslZpX z | .lsrZpX z | .rolZpX z | .rorZpX z
  | .ldaZpX z | .ldyZpX z | .staZpX z | .styZpX z | .incZpX z | .decZpX z | .cmpZpX z => .zpX z
  | .ldxZpY z | .stxZpY z => .zpY z
  | .adcAbs w | .sbcAbs w | .andAbs w | .oraAbs w | .eorAbs w | .aslAbs w | .lsrAbs w | .rolAbs w | .rorAbs w
  | .bitAbs w | .ldaAbs w | .ldxAbs w | .ldyAbs w | .staAbs w | .stxAbs w | .styAbs w | .incAbs w | .decAbs w
  | .cmpAbs w | .cpxAbs w | .cpyAbs w | .jmpAbs w | .jsr w => .abs w
  | .adcAbsX w | .sbcAbsX w | .andAbsX w | .oraAbsX w | .eorAbsX w | .aslAbsX w | .lsrAbsX w | .rolAbsX w
  | .rorAbsX w | .ldaAbsX w | .ldyAbsX w | .staAbsX w | .incAbsX w | .decAbsX w | .cmpAbsX w => .absX w
  | .adcAbsY w | .sbcAbsY w | .andAbsY w | .oraAbsY w | .eorAbsY w | .ldaAbsY w | .ldxAbsY w | .staAbsY w
  | .cmpAbsY w => .absY w
  | .jmpInd w => .ind w
  | .adcIzX z | .sbcIzX z | .andIzX z | .oraIzX z | .eorIzX z | .ldaIzX z | .staIzX z | .cmpIzX z => .izX z
  | .adcIzY z | .sbcIzY z | .andIzY z | .oraIzY z | .eorIzY z | .ldaIzY z | .staIzY z | .cmpIzY z => .izY z
  | .bpl off | .bmi off | .bvc off | .bvs off | .bcc off | .bcs off | .bne off | .beq off => .rel off

/-- The opcode byte of an instruction (the encoding tables of 30_encoding.md R85 to R90). -/
def Instr.opcode : Instr → Byte
  | .adcImm _ => 0x69#8
  | .adcZp _ => 0x65#8
  | .adcZpX _ => 0x75#8
  | .adcAbs _ => 0x6D#8
  | .adcAbsX _ => 0x7D#8
  | .adcAbsY _ => 0x79#8
  | .adcIzX _ => 0x61#8
  | .adcIzY _ => 0x71#8
  | .sbcImm _ => 0xE9#8
  | .sbcZp _ => 0xE5#8
  | .sbcZpX _ => 0xF5#8
  | .sbcAbs _ => 0xED#8
  | .sbcAbsX _ => 0xFD#8
  | .sbcAbsY _ => 0xF9#8
  | .sbcIzX _ => 0xE1#8
  | .sbcIzY _ => 0xF1#8
  | .andImm _ => 0x29#8
  | .andZp _ => 0x25#8
  | .andZpX _ => 0x35#8
  | .andAbs _ => 0x2D#8
  | .andAbsX _ => 0x3D#8
  | .andAbsY _ => 0x39#8
  | .andIzX _ => 0x21#8
  | .andIzY _ => 0x31#8
  | .oraImm _ => 0x09#8
  | .oraZp _ => 0x05#8
  | .oraZpX _ => 0x15#8
  | .oraAbs _ => 0x0D#8
  | .oraAbsX _ => 0x1D#8
  | .oraAbsY _ => 0x19#8
  | .oraIzX _ => 0x01#8
  | .oraIzY _ => 0x11#8
  | .eorImm _ => 0x49#8
  | .eorZp _ => 0x45#8
  | .eorZpX _ => 0x55#8
  | .eorAbs _ => 0x4D#8
  | .eorAbsX _ => 0x5D#8
  | .eorAbsY _ => 0x59#8
  | .eorIzX _ => 0x41#8
  | .eorIzY _ => 0x51#8
  | .aslAcc => 0x0A#8
  | .aslZp _ => 0x06#8
  | .aslZpX _ => 0x16#8
  | .aslAbs _ => 0x0E#8
  | .aslAbsX _ => 0x1E#8
  | .lsrAcc => 0x4A#8
  | .lsrZp _ => 0x46#8
  | .lsrZpX _ => 0x56#8
  | .lsrAbs _ => 0x4E#8
  | .lsrAbsX _ => 0x5E#8
  | .rolAcc => 0x2A#8
  | .rolZp _ => 0x26#8
  | .rolZpX _ => 0x36#8
  | .rolAbs _ => 0x2E#8
  | .rolAbsX _ => 0x3E#8
  | .rorAcc => 0x6A#8
  | .rorZp _ => 0x66#8
  | .rorZpX _ => 0x76#8
  | .rorAbs _ => 0x6E#8
  | .rorAbsX _ => 0x7E#8
  | .bitZp _ => 0x24#8
  | .bitAbs _ => 0x2C#8
  | .ldaImm _ => 0xA9#8
  | .ldaZp _ => 0xA5#8
  | .ldaZpX _ => 0xB5#8
  | .ldaAbs _ => 0xAD#8
  | .ldaAbsX _ => 0xBD#8
  | .ldaAbsY _ => 0xB9#8
  | .ldaIzX _ => 0xA1#8
  | .ldaIzY _ => 0xB1#8
  | .ldxImm _ => 0xA2#8
  | .ldxZp _ => 0xA6#8
  | .ldxZpY _ => 0xB6#8
  | .ldxAbs _ => 0xAE#8
  | .ldxAbsY _ => 0xBE#8
  | .ldyImm _ => 0xA0#8
  | .ldyZp _ => 0xA4#8
  | .ldyZpX _ => 0xB4#8
  | .ldyAbs _ => 0xAC#8
  | .ldyAbsX _ => 0xBC#8
  | .staZp _ => 0x85#8
  | .staZpX _ => 0x95#8
  | .staAbs _ => 0x8D#8
  | .staAbsX _ => 0x9D#8
  | .staAbsY _ => 0x99#8
  | .staIzX _ => 0x81#8
  | .staIzY _ => 0x91#8
  | .stxZp _ => 0x86#8
  | .stxZpY _ => 0x96#8
  | .stxAbs _ => 0x8E#8
  | .styZp _ => 0x84#8
  | .styZpX _ => 0x94#8
  | .styAbs _ => 0x8C#8
  | .incZp _ => 0xE6#8
  | .incZpX _ => 0xF6#8
  | .incAbs _ => 0xEE#8
  | .incAbsX _ => 0xFE#8
  | .decZp _ => 0xC6#8
  | .decZpX _ => 0xD6#8
  | .decAbs _ => 0xCE#8
  | .decAbsX _ => 0xDE#8
  | .inx => 0xE8#8
  | .iny => 0xC8#8
  | .dex => 0xCA#8
  | .dey => 0x88#8
  | .cmpImm _ => 0xC9#8
  | .cmpZp _ => 0xC5#8
  | .cmpZpX _ => 0xD5#8
  | .cmpAbs _ => 0xCD#8
  | .cmpAbsX _ => 0xDD#8
  | .cmpAbsY _ => 0xD9#8
  | .cmpIzX _ => 0xC1#8
  | .cmpIzY _ => 0xD1#8
  | .cpxImm _ => 0xE0#8
  | .cpxZp _ => 0xE4#8
  | .cpxAbs _ => 0xEC#8
  | .cpyImm _ => 0xC0#8
  | .cpyZp _ => 0xC4#8
  | .cpyAbs _ => 0xCC#8
  | .bpl _ => 0x10#8
  | .bmi _ => 0x30#8
  | .bvc _ => 0x50#8
  | .bvs _ => 0x70#8
  | .bcc _ => 0x90#8
  | .bcs _ => 0xB0#8
  | .bne _ => 0xD0#8
  | .beq _ => 0xF0#8
  | .jmpAbs _ => 0x4C#8
  | .jmpInd _ => 0x6C#8
  | .jsr _ => 0x20#8
  | .rts => 0x60#8
  | .brk => 0x00#8
  | .rti => 0x40#8
  | .pha => 0x48#8
  | .pla => 0x68#8
  | .php => 0x08#8
  | .plp => 0x28#8
  | .tax => 0xAA#8
  | .txa => 0x8A#8
  | .tay => 0xA8#8
  | .tya => 0x98#8
  | .tsx => 0xBA#8
  | .txs => 0x9A#8
  | .clc => 0x18#8
  | .sec => 0x38#8
  | .cli => 0x58#8
  | .sei => 0x78#8
  | .cld => 0xD8#8
  | .sed => 0xF8#8
  | .clv => 0xB8#8
  | .nop => 0xEA#8
  | .illegal op => op

/-- The number of operand bytes after the opcode byte. -/
def Instr.operandBytes (i : Instr) : Nat := i.operand.kind.operandBytes

/-- The length of an instruction in bytes (30_encoding.md R94); an illegal byte is one byte. -/
def Instr.length (i : Instr) : Nat := i.operand.kind.length

/-! ### The opcode decoder (30_encoding.md R82, R83) -/

/-- Group One's operation by `aaa` (30_encoding.md R85). -/
def groupOneOperation : Nat → Option Operation
  | 0 => some .ora | 1 => some .and | 2 => some .eor | 3 => some .adc
  | 4 => some .sta | 5 => some .lda | 6 => some .cmp | 7 => some .sbc
  | _ => none

/-- Group One's mode by `bbb` (30_encoding.md R85). -/
def groupOneMode : Nat → Option AddressingModeKind
  | 0 => some .indexedIndirect | 1 => some .zeroPage | 2 => some .immediate | 3 => some .absolute
  | 4 => some .indirectIndexed | 5 => some .zeroPageIndexedWithX
  | 6 => some .absoluteIndexedWithY | 7 => some .absoluteIndexedWithX
  | _ => none

/-- Group Two's operation by `aaa` (30_encoding.md R86). -/
def groupTwoOperation : Nat → Option Operation
  | 0 => some .asl | 1 => some .rol | 2 => some .lsr | 3 => some .ror
  | 4 => some .stx | 5 => some .ldx | 6 => some .dec | 7 => some .inc
  | _ => none

/-- Group Two's mode by `bbb` (30_encoding.md R86): STX and LDX index zero page with Y, LDX indexes absolute
addresses with Y. -/
def groupTwoMode (o : Operation) : Nat → Option AddressingModeKind
  | 0 => some .immediate | 1 => some .zeroPage | 2 => some .accumulator | 3 => some .absolute
  | 5 => if o = .stx ∨ o = .ldx then some .zeroPageIndexedWithY else some .zeroPageIndexedWithX
  | 7 => if o = .ldx then some .absoluteIndexedWithY else some .absoluteIndexedWithX
  | _ => none

/-- Group Three's operation by `aaa`; 010 and 011 are the two JMPs (30_encoding.md R87). -/
def groupThreeOperation : Nat → Option Operation
  | 1 => some .bit | 2 => some .jmp | 3 => some .jmp
  | 4 => some .sty | 5 => some .ldy | 6 => some .cpy | 7 => some .cpx
  | _ => none

/-- Group Three's mode by `aaa` and `bbb`: `bbb` = 011 is AbsoluteIndirect for `aaa` = 011 (30_encoding.md R87). -/
def groupThreeMode (aaa : Nat) : Nat → Option AddressingModeKind
  | 0 => some .immediate | 1 => some .zeroPage
  | 3 => if aaa = 3 then some .absoluteIndirect else some .absolute
  | 5 => some .zeroPageIndexedWithX | 7 => some .absoluteIndexedWithX
  | _ => none

/-- A pair of lookups yields a result only if both are defined and the pair is legal (30_encoding.md R83). -/
def legalPair (o : Option Operation) (k : Option AddressingModeKind) :
    Option (Operation × AddressingModeKind) :=
  match o, k with
  | some o, some k => if (legalModes o).contains k then some (o, k) else none
  | _, _ => none

/-- Step 1 of the decoder: the three groups, selected by `cc` (30_encoding.md R81, R83). -/
def decodeGroups (op : Byte) : Option (Operation × AddressingModeKind) :=
  let aaa := op.toNat / 32
  let bbb := op.toNat / 4 % 8
  match op.toNat % 4 with
  | 1 => legalPair (groupOneOperation aaa) (groupOneMode bbb)
  | 2 => legalPair (groupTwoOperation aaa) ((groupTwoOperation aaa).bind (groupTwoMode · bbb))
  | 0 => legalPair (groupThreeOperation aaa) (groupThreeMode aaa bbb)
  | _ => none

/-- Step 2: the branches `xxy10000` (30_encoding.md R88). -/
def decodeBranch (op : Byte) : Option (Operation × AddressingModeKind) :=
  if op.toNat % 32 = 16 then
    match op.toNat / 32 with
    | 0 => some (.bpl, .relative) | 1 => some (.bmi, .relative)
    | 2 => some (.bvc, .relative) | 3 => some (.bvs, .relative)
    | 4 => some (.bcc, .relative) | 5 => some (.bcs, .relative)
    | 6 => some (.bne, .relative) | 7 => some (.beq, .relative)
    | _ => none
  else none

/-- Step 3: the interrupt and subroutine bytes (30_encoding.md R89). -/
def decodeInterrupt (op : Byte) : Option (Operation × AddressingModeKind) :=
  match op.toNat with
  | 0x00 => some (.brk, .implied) | 0x20 => some (.jsr, .absolute)
  | 0x40 => some (.rti, .implied) | 0x60 => some (.rts, .implied)
  | _ => none

/-- Step 4: the other single-byte opcodes (30_encoding.md R90). -/
def decodeOther (op : Byte) : Option (Operation × AddressingModeKind) :=
  match op.toNat with
  | 0x08 => some (.php, .implied) | 0x28 => some (.plp, .implied)
  | 0x48 => some (.pha, .implied) | 0x68 => some (.pla, .implied)
  | 0x88 => some (.dey, .implied) | 0xA8 => some (.tay, .implied)
  | 0xC8 => some (.iny, .implied) | 0xE8 => some (.inx, .implied)
  | 0x18 => some (.clc, .implied) | 0x38 => some (.sec, .implied)
  | 0x58 => some (.cli, .implied) | 0x78 => some (.sei, .implied)
  | 0x98 => some (.tya, .implied) | 0xB8 => some (.clv, .implied)
  | 0xD8 => some (.cld, .implied) | 0xF8 => some (.sed, .implied)
  | 0x8A => some (.txa, .implied) | 0x9A => some (.txs, .implied)
  | 0xAA => some (.tax, .implied) | 0xBA => some (.tsx, .implied)
  | 0xCA => some (.dex, .implied) | 0xEA => some (.nop, .implied)
  | _ => none

/-- `decode(byte)` (30_encoding.md R82, R83): the first of the four steps that yields a legal pair, or `none`, which is
the spec's `IllegalOpcode(byte)`. -/
def decodeOpcode (op : Byte) : Option (Operation × AddressingModeKind) :=
  (decodeGroups op).or ((decodeBranch op).or ((decodeInterrupt op).or (decodeOther op)))

/-! ### Operand assembly (30_encoding.md R93) -/

/-- The instruction of an operation and a mode with the operand bytes `b1` and `b2`; `none` outside R91. -/
def assemble (o : Operation) (k : AddressingModeKind) (b1 b2 : Byte) : Option Instr :=
  match o with
  | .adc =>
    match k with
    | .immediate => some (.adcImm b1)
    | .zeroPage => some (.adcZp b1)
    | .zeroPageIndexedWithX => some (.adcZpX b1)
    | .absolute => some (.adcAbs (mkWord b2 b1))
    | .absoluteIndexedWithX => some (.adcAbsX (mkWord b2 b1))
    | .absoluteIndexedWithY => some (.adcAbsY (mkWord b2 b1))
    | .indexedIndirect => some (.adcIzX b1)
    | .indirectIndexed => some (.adcIzY b1)
    | _ => none
  | .sbc =>
    match k with
    | .immediate => some (.sbcImm b1)
    | .zeroPage => some (.sbcZp b1)
    | .zeroPageIndexedWithX => some (.sbcZpX b1)
    | .absolute => some (.sbcAbs (mkWord b2 b1))
    | .absoluteIndexedWithX => some (.sbcAbsX (mkWord b2 b1))
    | .absoluteIndexedWithY => some (.sbcAbsY (mkWord b2 b1))
    | .indexedIndirect => some (.sbcIzX b1)
    | .indirectIndexed => some (.sbcIzY b1)
    | _ => none
  | .and =>
    match k with
    | .immediate => some (.andImm b1)
    | .zeroPage => some (.andZp b1)
    | .zeroPageIndexedWithX => some (.andZpX b1)
    | .absolute => some (.andAbs (mkWord b2 b1))
    | .absoluteIndexedWithX => some (.andAbsX (mkWord b2 b1))
    | .absoluteIndexedWithY => some (.andAbsY (mkWord b2 b1))
    | .indexedIndirect => some (.andIzX b1)
    | .indirectIndexed => some (.andIzY b1)
    | _ => none
  | .ora =>
    match k with
    | .immediate => some (.oraImm b1)
    | .zeroPage => some (.oraZp b1)
    | .zeroPageIndexedWithX => some (.oraZpX b1)
    | .absolute => some (.oraAbs (mkWord b2 b1))
    | .absoluteIndexedWithX => some (.oraAbsX (mkWord b2 b1))
    | .absoluteIndexedWithY => some (.oraAbsY (mkWord b2 b1))
    | .indexedIndirect => some (.oraIzX b1)
    | .indirectIndexed => some (.oraIzY b1)
    | _ => none
  | .eor =>
    match k with
    | .immediate => some (.eorImm b1)
    | .zeroPage => some (.eorZp b1)
    | .zeroPageIndexedWithX => some (.eorZpX b1)
    | .absolute => some (.eorAbs (mkWord b2 b1))
    | .absoluteIndexedWithX => some (.eorAbsX (mkWord b2 b1))
    | .absoluteIndexedWithY => some (.eorAbsY (mkWord b2 b1))
    | .indexedIndirect => some (.eorIzX b1)
    | .indirectIndexed => some (.eorIzY b1)
    | _ => none
  | .asl =>
    match k with
    | .accumulator => some .aslAcc
    | .zeroPage => some (.aslZp b1)
    | .zeroPageIndexedWithX => some (.aslZpX b1)
    | .absolute => some (.aslAbs (mkWord b2 b1))
    | .absoluteIndexedWithX => some (.aslAbsX (mkWord b2 b1))
    | _ => none
  | .lsr =>
    match k with
    | .accumulator => some .lsrAcc
    | .zeroPage => some (.lsrZp b1)
    | .zeroPageIndexedWithX => some (.lsrZpX b1)
    | .absolute => some (.lsrAbs (mkWord b2 b1))
    | .absoluteIndexedWithX => some (.lsrAbsX (mkWord b2 b1))
    | _ => none
  | .rol =>
    match k with
    | .accumulator => some .rolAcc
    | .zeroPage => some (.rolZp b1)
    | .zeroPageIndexedWithX => some (.rolZpX b1)
    | .absolute => some (.rolAbs (mkWord b2 b1))
    | .absoluteIndexedWithX => some (.rolAbsX (mkWord b2 b1))
    | _ => none
  | .ror =>
    match k with
    | .accumulator => some .rorAcc
    | .zeroPage => some (.rorZp b1)
    | .zeroPageIndexedWithX => some (.rorZpX b1)
    | .absolute => some (.rorAbs (mkWord b2 b1))
    | .absoluteIndexedWithX => some (.rorAbsX (mkWord b2 b1))
    | _ => none
  | .bit =>
    match k with
    | .zeroPage => some (.bitZp b1)
    | .absolute => some (.bitAbs (mkWord b2 b1))
    | _ => none
  | .lda =>
    match k with
    | .immediate => some (.ldaImm b1)
    | .zeroPage => some (.ldaZp b1)
    | .zeroPageIndexedWithX => some (.ldaZpX b1)
    | .absolute => some (.ldaAbs (mkWord b2 b1))
    | .absoluteIndexedWithX => some (.ldaAbsX (mkWord b2 b1))
    | .absoluteIndexedWithY => some (.ldaAbsY (mkWord b2 b1))
    | .indexedIndirect => some (.ldaIzX b1)
    | .indirectIndexed => some (.ldaIzY b1)
    | _ => none
  | .ldx =>
    match k with
    | .immediate => some (.ldxImm b1)
    | .zeroPage => some (.ldxZp b1)
    | .zeroPageIndexedWithY => some (.ldxZpY b1)
    | .absolute => some (.ldxAbs (mkWord b2 b1))
    | .absoluteIndexedWithY => some (.ldxAbsY (mkWord b2 b1))
    | _ => none
  | .ldy =>
    match k with
    | .immediate => some (.ldyImm b1)
    | .zeroPage => some (.ldyZp b1)
    | .zeroPageIndexedWithX => some (.ldyZpX b1)
    | .absolute => some (.ldyAbs (mkWord b2 b1))
    | .absoluteIndexedWithX => some (.ldyAbsX (mkWord b2 b1))
    | _ => none
  | .sta =>
    match k with
    | .zeroPage => some (.staZp b1)
    | .zeroPageIndexedWithX => some (.staZpX b1)
    | .absolute => some (.staAbs (mkWord b2 b1))
    | .absoluteIndexedWithX => some (.staAbsX (mkWord b2 b1))
    | .absoluteIndexedWithY => some (.staAbsY (mkWord b2 b1))
    | .indexedIndirect => some (.staIzX b1)
    | .indirectIndexed => some (.staIzY b1)
    | _ => none
  | .stx =>
    match k with
    | .zeroPage => some (.stxZp b1)
    | .zeroPageIndexedWithY => some (.stxZpY b1)
    | .absolute => some (.stxAbs (mkWord b2 b1))
    | _ => none
  | .sty =>
    match k with
    | .zeroPage => some (.styZp b1)
    | .zeroPageIndexedWithX => some (.styZpX b1)
    | .absolute => some (.styAbs (mkWord b2 b1))
    | _ => none
  | .inc =>
    match k with
    | .zeroPage => some (.incZp b1)
    | .zeroPageIndexedWithX => some (.incZpX b1)
    | .absolute => some (.incAbs (mkWord b2 b1))
    | .absoluteIndexedWithX => some (.incAbsX (mkWord b2 b1))
    | _ => none
  | .dec =>
    match k with
    | .zeroPage => some (.decZp b1)
    | .zeroPageIndexedWithX => some (.decZpX b1)
    | .absolute => some (.decAbs (mkWord b2 b1))
    | .absoluteIndexedWithX => some (.decAbsX (mkWord b2 b1))
    | _ => none
  | .inx => if k = .implied then some .inx else none
  | .iny => if k = .implied then some .iny else none
  | .dex => if k = .implied then some .dex else none
  | .dey => if k = .implied then some .dey else none
  | .cmp =>
    match k with
    | .immediate => some (.cmpImm b1)
    | .zeroPage => some (.cmpZp b1)
    | .zeroPageIndexedWithX => some (.cmpZpX b1)
    | .absolute => some (.cmpAbs (mkWord b2 b1))
    | .absoluteIndexedWithX => some (.cmpAbsX (mkWord b2 b1))
    | .absoluteIndexedWithY => some (.cmpAbsY (mkWord b2 b1))
    | .indexedIndirect => some (.cmpIzX b1)
    | .indirectIndexed => some (.cmpIzY b1)
    | _ => none
  | .cpx =>
    match k with
    | .immediate => some (.cpxImm b1)
    | .zeroPage => some (.cpxZp b1)
    | .absolute => some (.cpxAbs (mkWord b2 b1))
    | _ => none
  | .cpy =>
    match k with
    | .immediate => some (.cpyImm b1)
    | .zeroPage => some (.cpyZp b1)
    | .absolute => some (.cpyAbs (mkWord b2 b1))
    | _ => none
  | .bpl => if k = .relative then some (.bpl b1) else none
  | .bmi => if k = .relative then some (.bmi b1) else none
  | .bvc => if k = .relative then some (.bvc b1) else none
  | .bvs => if k = .relative then some (.bvs b1) else none
  | .bcc => if k = .relative then some (.bcc b1) else none
  | .bcs => if k = .relative then some (.bcs b1) else none
  | .bne => if k = .relative then some (.bne b1) else none
  | .beq => if k = .relative then some (.beq b1) else none
  | .jmp =>
    match k with
    | .absolute => some (.jmpAbs (mkWord b2 b1))
    | .absoluteIndirect => some (.jmpInd (mkWord b2 b1))
    | _ => none
  | .jsr => if k = .absolute then some (.jsr (mkWord b2 b1)) else none
  | .rts => if k = .implied then some .rts else none
  | .brk => if k = .implied then some .brk else none
  | .rti => if k = .implied then some .rti else none
  | .pha => if k = .implied then some .pha else none
  | .pla => if k = .implied then some .pla else none
  | .php => if k = .implied then some .php else none
  | .plp => if k = .implied then some .plp else none
  | .tax => if k = .implied then some .tax else none
  | .txa => if k = .implied then some .txa else none
  | .tay => if k = .implied then some .tay else none
  | .tya => if k = .implied then some .tya else none
  | .tsx => if k = .implied then some .tsx else none
  | .txs => if k = .implied then some .txs else none
  | .clc => if k = .implied then some .clc else none
  | .sec => if k = .implied then some .sec else none
  | .cli => if k = .implied then some .cli else none
  | .sei => if k = .implied then some .sei else none
  | .cld => if k = .implied then some .cld else none
  | .sed => if k = .implied then some .sed else none
  | .clv => if k = .implied then some .clv else none
  | .nop => if k = .implied then some .nop else none

/-- The instruction whose opcode byte is `op` and whose following bytes are `b1` and `b2`; it depends only on the
operand bytes its mode reads (49_driver.md R330 to R332). -/
def decodeInstr (op b1 b2 : Byte) : Instr :=
  match decodeOpcode op with
  | some (o, k) => (assemble o k b1 b2).getD (.illegal op)
  | none => .illegal op

/-- Why a list of bytes holds no whole instruction. An illegal opcode is no such reason: it decodes to `illegal`. -/
inductive DecodeError where
  /-- The list is empty. -/
  | noOpcode
  /-- The list ends before the operand bytes of the instruction with this opcode byte. -/
  | truncated (op : Byte)
deriving DecidableEq, Repr

/-- Decode the instruction at the head of a list of bytes, and return the bytes after it (30_encoding.md R80). -/
def decode : List Byte → Except DecodeError (Instr × List Byte)
  | [] => .error .noOpcode
  | op :: rest =>
    let i := decodeInstr op (rest.getD 0 0#8) (rest.getD 1 0#8)
    if rest.length < i.operandBytes then .error (.truncated op)
    else .ok (i, rest.drop i.operandBytes)

/-- The bytes of an instruction in address order (30_encoding.md R80, R93). -/
def encode (i : Instr) : List Byte := i.opcode :: i.operand.bytes

/-! ### The opcode table's words -/

/-- The three bytes of a table word of `nbits` bits: the first byte is bits 7..0, and every bit from `nbits` up is 0. -/
def tableBytes (nbits w : Nat) : List Byte :=
  let v := w % 2 ^ nbits
  [BitVec.ofNat 8 v, BitVec.ofNat 8 (v / 256), BitVec.ofNat 8 (v / 65536)]

/-- The instruction the decoder reads from a word numbered as spec/opcode_table.json numbers it. -/
def decodeTableWord (nbits w : Nat) : Option Instr :=
  match decode (tableBytes nbits w) with
  | .ok (i, _) => some i
  | .error _ => none

end Sys2Proof
end

