-- ==== Sys2Proof/Machine/State.lean ====
section
/-! DEFINITION. The state of the core as plain data (10_state.md): six registers, the driver's two pieces of state and
memory. 10_state.md R31 and R34 say there is nothing else. -/

namespace Sys2Proof.Machine

/-- The stored bits of the status byte P (10_state.md R25). Bit 5 is not storage (R26): it appears only in the byte views
`statusByte` and `flagsOfByte`. -/
structure Flags where
  /-- Negative, bit 7. -/
  n : Bool
  /-- Overflow, bit 6. -/
  v : Bool
  /-- Break, bit 4: one stored bit that only PLP, RTI and the host write (10_state.md R27). -/
  b : Bool
  /-- Decimal, bit 3. -/
  d : Bool
  /-- InterruptDisable, bit 2. -/
  i : Bool
  /-- Zero, bit 1. -/
  z : Bool
  /-- Carry, bit 0. -/
  c : Bool
deriving DecidableEq, Repr

/-- The names of the seven flags (10_state.md R28). -/
inductive Flag where
  | n | v | b | d | i | z | c
deriving DecidableEq, Repr

/-- The driver's run state (10_state.md R30). -/
inductive RunState where
  | running
  | halted
deriving DecidableEq, Repr

/-- The 65536 bytes of memory (20_memory.md R60) as address and byte pairs: addresses strictly rising and below 65536, and no
pair equal to what an unlisted address reads as. `Memory.wf` in Machine/Ops.lean states that form. -/
abbrev Memory := List Host.Cell

/-- Why the machine stops. -/
inductive Fault where
  /-- Raised by `step` while Halted (60_exceptions.md R361): the spec's `Err(IllegalOpcode(b))`, with the byte of the halt.
  Safe: the spec says that this step changes nothing and returns this error. -/
  | illegalOpcode (op : Byte)
deriving DecidableEq, Repr

/-- Why the model gives a step no meaning. -/
inductive Refusal where
  /-- Raised by a rejected arm of `exec`: an instruction that has no meaning yet. No arm is rejected. Safe. -/
  | notModelled (mnemonic : String)
  /-- Raised by ADC and SBC with D = 1 under DECIMAL_POLICY = refuse (41_alu.md R161), never under the policy the model runs
  with. Safe: the spec itself names this refusal. -/
  | decimalMode
deriving DecidableEq, Repr

/-- The state of one core and its memory (10_state.md R20 to R31, 20_memory.md R60). -/
structure State where
  /-- Accumulator (10_state.md R21). -/
  a : Byte
  /-- Index register X (10_state.md R22). -/
  x : Byte
  /-- Index register Y (10_state.md R22). -/
  y : Byte
  /-- Stack pointer; it selects the byte at `0x0100 | S` (10_state.md R23). -/
  s : Byte
  /-- Program counter (10_state.md R24). -/
  pc : Word
  /-- The status byte's stored bits (10_state.md R25 to R27). -/
  p : Flags
  /-- Running or Halted (10_state.md R30). -/
  runState : RunState
  /-- The byte that caused the last halt, meaningful only while Halted (10_state.md R30). -/
  haltOpcode : Byte
  /-- Memory (20_memory.md R60). -/
  mem : Memory
deriving DecidableEq, Repr

/-- The machine right after `reset()` (70_reset_and_hazards.md R401), applied to a power-on state whose registers, flags and
memory are all zero: S = 0x00 - 3 = 0xFD, I = 1, PC = the word at 0xFFFC, which reads 0x0000 in a memory with nothing
listed. DESIGN CHOICE, log entries 1 and 2 (unsafe): the spec leaves the power-on values to the launch (R400).
`Machine.launch` gives the state for any other power-on values. -/
def State.reset : State where
  a := 0x00#8
  x := 0x00#8
  y := 0x00#8
  s := 0xFD#8
  pc := 0x0000#16
  p := { n := false, v := false, b := false, d := false, i := true, z := false, c := false }
  runState := .running
  haltOpcode := 0x00#8
  mem := []

end Sys2Proof.Machine
end

