-- ==== Sys2Proof/Machine/Ops.lean ====
section
/-! DEFINITION. The named operations over memory, registers and the stack, taking an interrupt and returning from one,
halting on an illegal opcode, and what a step reads before it executes. -/

namespace Sys2Proof.Machine

/-- The parameters the model runs with: the spec's defaults (00_scope.md R6). DESIGN CHOICE, log entry 5 (unsafe). -/
def params : Params := specParams

/-- The outcome of executing an instruction. -/
abbrev Result := Host.Outcome State Fault Refusal

/-! ### Memory (20_memory.md) -/

/-- What an address that memory does not list reads as. DESIGN CHOICE, log entry 1 (unsafe): MEM_INIT is a launch
argument (70_reset_and_hazards.md R400), and 95_test_vectors.md takes unlisted memory as 00. -/
def memDefault : Byte := 0x00#8

/-- The byte at an address. -/
def memRead : Memory → Nat → Byte
  | [], _ => memDefault
  | (k, v) :: rest, a => if k = a then v else memRead rest a

/-- Memory with the byte at an address replaced, in the same canonical form. -/
def memWrite : Memory → Nat → Byte → Memory
  | [], a, v => if v = memDefault then [] else [(a, v)]
  | (k, u) :: rest, a, v =>
    if a < k then (if v = memDefault then (k, u) :: rest else (a, v) :: (k, u) :: rest)
    else if a = k then (if v = memDefault then rest else (a, v) :: rest)
    else (k, u) :: memWrite rest a v

/-- Every address is at least `lo`, the addresses rise strictly and lie in the address space, and no entry is redundant. -/
def memWfFrom : Nat → Memory → Bool
  | _, [] => true
  | lo, (k, v) :: rest => decide (lo ≤ k) && decide (k < 65536) && decide (v ≠ memDefault) && memWfFrom (k + 1) rest

/-- Memory's canonical form. -/
def Memory.wf (m : Memory) : Bool := memWfFrom 0 m

/-- `read_byte`, written `MemRead(addr, 1)` (20_memory.md R61). -/
def State.readByte (s : State) (addr : Word) : Byte := memRead s.mem addr.toNat

/-- `write_byte`, written `MemWrite(addr, 1, v)` (20_memory.md R61). -/
def State.writeByte (s : State) (addr : Word) (v : Byte) : State :=
  { s with mem := memWrite s.mem addr.toNat v }

/-- `read_word`: low byte first, the second address modulo 65536 (20_memory.md R63, R64). -/
def State.readWord (s : State) (addr : Word) : Word := mkWord (s.readByte (addr + 1#16)) (s.readByte addr)

/-- `write_word`: the low byte, then the high byte (20_memory.md R63, R64). -/
def State.writeWord (s : State) (addr : Word) (v : Word) : State :=
  (s.writeByte addr (loByte v)).writeByte (addr + 1#16) (hiByte v)

/-! ### Register writes (10_state.md R29) -/

/-- `A <- v`. -/
def State.setA (s : State) (v : Byte) : State := { s with a := v }
/-- `X <- v`. -/
def State.setX (s : State) (v : Byte) : State := { s with x := v }
/-- `Y <- v`. -/
def State.setY (s : State) (v : Byte) : State := { s with y := v }
/-- `S <- v`. -/
def State.setS (s : State) (v : Byte) : State := { s with s := v }
/-- `PC <- v`, by an instruction or an entry. -/
def State.setPc (s : State) (v : Word) : State := { s with pc := v }
/-- All stored flags at once. -/
def State.setP (s : State) (f : Flags) : State := { s with p := f }

/-! ### The status byte (10_state.md R25, R26, 47_stack.md R283) -/

/-- `StatusByte(b)`: P with bit 5 set and bit 4 taken from the argument, not from the stored B (47_stack.md R283). -/
def statusByte (f : Flags) (b : Bool) : Byte :=
  BitVec.ofBool f.n ++ BitVec.ofBool f.v ++ BitVec.ofBool true ++ BitVec.ofBool b ++
    BitVec.ofBool f.d ++ BitVec.ofBool f.i ++ BitVec.ofBool f.z ++ BitVec.ofBool f.c

/-- P as the host reads it: bit 4 is the stored B, bit 5 reads 1 (10_state.md R25, R26). -/
def State.readP (s : State) : Byte := statusByte s.p s.p.b

/-- The stored bits of a byte written to P; bit 5 is discarded (10_state.md R26, 47_stack.md R287). -/
def flagsOfByte (p : Byte) : Flags where
  n := p.getLsbD 7
  v := p.getLsbD 6
  b := p.getLsbD 4
  d := p.getLsbD 3
  i := p.getLsbD 2
  z := p.getLsbD 1
  c := p.getLsbD 0

/-! ### The stack (47_stack.md R280 to R282) -/

/-- The address of the stack byte that a value of S selects (10_state.md R23). -/
def stackAddr (sp : Byte) : Word := 0x0100#16 ||| zext16 sp

/-- `Push(v)`: write, then decrement S modulo 256 (47_stack.md R280). -/
def push (v : Byte) (s : State) : State := (s.writeByte (stackAddr s.s) v).setS (s.s - 1#8)

/-- `Pull()`: increment S modulo 256, then read (47_stack.md R281). -/
def pull (s : State) : Byte × State := (s.readByte (stackAddr (s.s + 1#8)), s.setS (s.s + 1#8))

/-- Push a 16-bit value, high byte first (47_stack.md R280). -/
def pushWord (w : Word) (s : State) : State := push (loByte w) (push (hiByte w) s)

/-- Pull a 16-bit value, low byte first. -/
def pullWord (s : State) : Word × State :=
  let (lo, s₁) := pull s
  let (hi, s₂) := pull s₁
  (mkWord hi lo, s₂)

/-- Pull P (47_stack.md R287, 46_control.md R265). -/
def pullFlags (s : State) : State :=
  let (p, s₁) := pull s
  s₁.setP (flagsOfByte p)

/-! ### Taking an interrupt, returning from one, and halting -/

/-- The one entry sequence of BRK, IRQ and NMI (46_control.md R264, 60_exceptions.md R366): push the return address and
`StatusByte(b)`, set I, and load PC from the vector. The stored B, D and every other flag are unchanged. -/
def enterInterrupt (ret : Word) (b : Bool) (vec : Word) (s : State) : State :=
  let s₁ := push (statusByte s.p b) (pushWord ret s)
  (s₁.setP { s.p with i := true }).setPc (s₁.readWord vec)

/-- RTI (46_control.md R265, 60_exceptions.md R370): pull P, then PC, with nothing added. -/
def returnFromInterrupt (s : State) : State :=
  let (pc, s₁) := pullWord (pullFlags s)
  s₁.setPc pc

/-- The IllegalOpcode exception (60_exceptions.md R360): Halted with the byte recorded, and nothing else changes.
DESIGN CHOICE, log entry 4 (safe): the error that `step` returns is read off the Halted state (`stepResult`). -/
def haltOnIllegal (op : Byte) (s : State) : State := { s with runState := .halted, haltOpcode := op }

/-! ### Fetching (49_driver.md R330 to R333) -/

/-- The instruction at PC: the opcode byte and the bytes after it, addresses modulo 65536 (49_driver.md R331, R332). -/
def fetchInstr (s : State) : Instr :=
  decodeInstr (s.readByte s.pc) (s.readByte (s.pc + 1#16)) (s.readByte (s.pc + 2#16))

/-- How far PC advances before execution: the whole instruction (49_driver.md R333), and nothing for an illegal byte
(60_exceptions.md R360). -/
def pcAdvance : Instr → Nat
  | .illegal _ => 0
  | i => i.length

/-- `PC <- (pc0 + len(mode)) mod 65536` (49_driver.md R333). -/
def advancePc (i : Instr) (s : State) : State := s.setPc (s.pc + BitVec.ofNat 16 (pcAdvance i))

/-- `step` while Halted: the error of the halt again, and no change (60_exceptions.md R361). -/
def stepHalted (s : State) : Result := .fault (.illegalOpcode s.haltOpcode)

/-- What `step` returns, read off the state it leaves: `none` is `Ok(())`, `some b` is `Err(IllegalOpcode(b))`
(49_driver.md R335). -/
def stepResult (s : State) : Option Byte :=
  match s.runState with
  | .running => none
  | .halted => some s.haltOpcode

/-- Store bytes at an address and the ones after it, modulo 65536. -/
def placeBytes : List Byte → Word → State → State
  | [], _, s => s
  | v :: rest, addr, s => placeBytes rest (addr + 1#16) (s.writeByte addr v)

/-- The state with a program's bytes loaded at PC and the driver Running, so that the next step fetches them (log entry 7). -/
def placeProgram (bytes : List Byte) (s : State) : State :=
  { placeBytes bytes s.pc s with runState := .running }

end Sys2Proof.Machine
end

