-- ==== Sys2Proof/Machine/Operands.lean ====
section
/-! DEFINITION. The addressing-mode resolver (40_addressing.md). One function per mode gives its effective address; the
meanings call these, and `resolveEa` and `resolveVal` gather them into the resolver of R120. The resolver reads memory and
registers and changes nothing (R121). PC is already advanced when it runs (R120). -/

namespace Sys2Proof.Machine

/-- zp: `EA = zext_16(b1)` (40_addressing.md R125). -/
def eaZp (z : Byte) : Word := zext16 z

/-- zpx: the sum wraps inside zero page (40_addressing.md R127). -/
def eaZpX (z : Byte) (s : State) : Word := zext16 (z + s.x)

/-- zpy: the sum wraps inside zero page (40_addressing.md R127). -/
def eaZpY (z : Byte) (s : State) : Word := zext16 (z + s.y)

/-- absx: a 16-bit sum that wraps at 65536 (40_addressing.md R128). -/
def eaAbsX (w : Word) (s : State) : Word := w + zext16 s.x

/-- absy: a 16-bit sum that wraps at 65536 (40_addressing.md R128). -/
def eaAbsY (w : Word) (s : State) : Word := w + zext16 s.y

/-- The address of the high byte of a zero-page pointer at `p` (40_addressing.md R130). -/
def zpPtrHigh (wrap : Bool) (p : Byte) : Word := if wrap then zext16 (p + 1#8) else zext16 p + 1#16

/-- The word that a zero-page pointer at `p` holds (40_addressing.md R129, R131). -/
def zpPointer (wrap : Bool) (p : Byte) (s : State) : Word :=
  mkWord (s.readByte (zpPtrHigh wrap p)) (s.readByte (zext16 p))

/-- izx: the pointer at `(b1 + X) mod 256` (40_addressing.md R129). -/
def eaIzX (z : Byte) (s : State) : Word := zpPointer params.zpPtrWrap (z + s.x) s

/-- izy: the pointer at `b1`, plus Y as a 16-bit sum (40_addressing.md R131). -/
def eaIzY (z : Byte) (s : State) : Word := zpPointer params.zpPtrWrap z s + zext16 s.y

/-- The address of the high byte of JMP's pointer at `w` (40_addressing.md R132). -/
def indPtrHigh (wrap : Bool) (w : Word) : Word :=
  if wrap then (w &&& 0xFF00#16) ||| ((w + 1#16) &&& 0x00FF#16) else w + 1#16

/-- The word that JMP's pointer at `w` holds (40_addressing.md R132). -/
def indPointer (wrap : Bool) (w : Word) (s : State) : Word :=
  mkWord (s.readByte (indPtrHigh wrap w)) (s.readByte w)

/-- ind: the jump target (40_addressing.md R132). -/
def eaInd (w : Word) (s : State) : Word := indPointer params.jmpIndPageWrap w s

/-- rel: the branch target, from the PC after the branch (40_addressing.md R134). -/
def eaRel (off : Byte) (s : State) : Word := s.pc + sext16 off

/-- The effective address that the resolver gives for an operand, if its mode has one (40_addressing.md R120 to R134). -/
def resolveEa (o : Operand) (s : State) : Option Word :=
  match o with
  | .acc | .imp | .imm _ => none
  | .zp z => some (eaZp z)
  | .zpX z => some (eaZpX z s)
  | .zpY z => some (eaZpY z s)
  | .abs w => some w
  | .absX w => some (eaAbsX w s)
  | .absY w => some (eaAbsY w s)
  | .ind w => some (eaInd w s)
  | .izX z => some (eaIzX z s)
  | .izY z => some (eaIzY z s)
  | .rel off => some (eaRel off s)

/-- The value that the resolver gives an operation that consumes one (40_addressing.md R133, R135). JMP's and the branches'
modes have none. -/
def resolveVal (o : Operand) (s : State) : Option Byte :=
  match o with
  | .acc => some s.a
  | .imm v => some v
  | .imp | .ind _ | .rel _ => none
  | .zp z => some (s.readByte (eaZp z))
  | .zpX z => some (s.readByte (eaZpX z s))
  | .zpY z => some (s.readByte (eaZpY z s))
  | .abs w => some (s.readByte w)
  | .absX w => some (s.readByte (eaAbsX w s))
  | .absY w => some (s.readByte (eaAbsY w s))
  | .izX z => some (s.readByte (eaIzX z s))
  | .izY z => some (s.readByte (eaIzY z s))

end Sys2Proof.Machine
end

