-- ==== Sys2Proof/Machine/Branch.lean ====
section
/-! DEFINITION. The branch group (45_branch.md). -/

namespace Sys2Proof.Machine

/-- `Branch(cond)` (45_branch.md R248): PC is already the address after the branch. -/
def branch (cond : Bool) (off : Byte) (s : State) : State := if cond then s.setPc (eaRel off s) else s

/-- BPL rel, 0x10 (45_branch.md R240). -/
def execBpl (off : Byte) (s : State) : Result := .next (branch (!s.p.n) off s)

/-- BMI rel, 0x30 (45_branch.md R241). -/
def execBmi (off : Byte) (s : State) : Result := .next (branch s.p.n off s)

/-- BVC rel, 0x50 (45_branch.md R242). -/
def execBvc (off : Byte) (s : State) : Result := .next (branch (!s.p.v) off s)

/-- BVS rel, 0x70 (45_branch.md R243). -/
def execBvs (off : Byte) (s : State) : Result := .next (branch s.p.v off s)

/-- BCC rel, 0x90 (45_branch.md R244). -/
def execBcc (off : Byte) (s : State) : Result := .next (branch (!s.p.c) off s)

/-- BCS rel, 0xB0 (45_branch.md R245). -/
def execBcs (off : Byte) (s : State) : Result := .next (branch s.p.c off s)

/-- BNE rel, 0xD0 (45_branch.md R246). -/
def execBne (off : Byte) (s : State) : Result := .next (branch (!s.p.z) off s)

/-- BEQ rel, 0xF0 (45_branch.md R247). -/
def execBeq (off : Byte) (s : State) : Result := .next (branch s.p.z off s)

end Sys2Proof.Machine
end

