-- ==== Sys2Proof/Machine/Flags.lean ====
section
/-! DEFINITION. The flag accessors (10_state.md R28) and every flag computation of the spec: SetZN (00_scope.md R10), binary
addition and subtraction (41_alu.md R150, R151), shifts and rotates (R155 to R158), BIT (R159) and Compare (44_compare.md R223). -/

namespace Sys2Proof.Machine

/-! ### Flag accessors (10_state.md R28) -/

/-- `get_F()`. -/
def State.getFlag (s : State) : Flag → Bool
  | .n => s.p.n
  | .v => s.p.v
  | .b => s.p.b
  | .d => s.p.d
  | .i => s.p.i
  | .z => s.p.z
  | .c => s.p.c

/-- `F <- new`, every other flag untouched. -/
def State.setFlag (s : State) (f : Flag) (new : Bool) : State :=
  match f with
  | .n => s.setP { s.p with n := new }
  | .v => s.setP { s.p with v := new }
  | .b => s.setP { s.p with b := new }
  | .d => s.setP { s.p with d := new }
  | .i => s.setP { s.p with i := new }
  | .z => s.setP { s.p with z := new }
  | .c => s.setP { s.p with c := new }

/-- `replace_F(new)`: sets the flag and returns its previous value. -/
def State.replaceFlag (s : State) (f : Flag) (new : Bool) : Bool × State := (s.getFlag f, s.setFlag f new)

/-! ### Flag computations -/

/-- `SetZN(v)` (00_scope.md R10). -/
def setZN (v : Byte) (s : State) : State := s.setP { s.p with z := v == 0#8, n := v.getLsbD 7 }

/-- A flag as a `u16` addend. -/
def bit16 (b : Bool) : Word := (BitVec.ofBool b).setWidth 16

/-- ADC's temporary `r = zext_16(A) + zext_16(VAL) + P.C` (41_alu.md R150). -/
def sum9 (a v : Byte) (c : Bool) : Word := zext16 a + zext16 v + bit16 c

/-- ADC's overflow: the operands have the same sign and the result has the other (41_alu.md R150). -/
def addOverflow (a v res : Byte) : Bool := ((~~~(a ^^^ v)) &&& (a ^^^ res)).getLsbD 7

/-- SBC's overflow: the operands differ in sign and the result's sign differs from A's (41_alu.md R151). -/
def subOverflow (a v res : Byte) : Bool := ((a ^^^ v) &&& (a ^^^ res)).getLsbD 7

/-- Write a sum to A with C from bit 8 of the temporary, the given V, and Z and N of the result. -/
def putSum (r : Word) (ov : Bool) (s : State) : State :=
  setZN (loByte r) { s with a := loByte r, p := { s.p with c := r.getLsbD 8, v := ov } }

/-- ASL: the result and the carry out (41_alu.md R155); the carry in is not used. -/
def aslByte (v : Byte) (_ : Bool) : Byte × Bool := (v <<< 1, v.getLsbD 7)

/-- LSR (41_alu.md R156). -/
def lsrByte (v : Byte) (_ : Bool) : Byte × Bool := (v >>> 1, v.getLsbD 0)

/-- ROL: the carry enters bit 0 (41_alu.md R157). -/
def rolByte (v : Byte) (c : Bool) : Byte × Bool := ((v <<< 1) ||| (BitVec.ofBool c).setWidth 8, v.getLsbD 7)

/-- ROR: the carry enters bit 7 (41_alu.md R158). -/
def rorByte (v : Byte) (c : Bool) : Byte × Bool := ((v >>> 1) ||| ((BitVec.ofBool c).setWidth 8 <<< 7), v.getLsbD 0)

/-- `Compare(R, VAL)` (44_compare.md R223): C is an unsigned comparison, V and the carry in play no part. -/
def compareOp (r v : Byte) (s : State) : State :=
  s.setP { s.p with c := decide (v.toNat ≤ r.toNat), z := r == v, n := (r - v).getLsbD 7 }

/-- BIT's flags: Z from `A & VAL`, N and V from the memory byte (41_alu.md R159). -/
def bitTest (v : Byte) (s : State) : State :=
  s.setP { s.p with z := (s.a &&& v) == 0#8, n := v.getLsbD 7, v := v.getLsbD 6 }

end Sys2Proof.Machine
end

