-- ==== Sys2Proof/Machine/Compare.lean ====
section
/-! DEFINITION. The compare group (44_compare.md): `Compare(R, VAL)` of Machine/Flags.lean with A, X or Y. -/

namespace Sys2Proof.Machine

/-- CMP #, 0xC9 (44_compare.md R220). -/
def execCmpImm (v : Byte) (s : State) : Result := .next (compareOp s.a v s)

/-- CMP zp, 0xC5 (44_compare.md R220). -/
def execCmpZp (z : Byte) (s : State) : Result := .next (compareOp s.a (s.readByte (eaZp z)) s)

/-- CMP zp,X, 0xD5 (44_compare.md R220). -/
def execCmpZpX (z : Byte) (s : State) : Result := .next (compareOp s.a (s.readByte (eaZpX z s)) s)

/-- CMP abs, 0xCD (44_compare.md R220). -/
def execCmpAbs (w : Word) (s : State) : Result := .next (compareOp s.a (s.readByte w) s)

/-- CMP abs,X, 0xDD (44_compare.md R220). -/
def execCmpAbsX (w : Word) (s : State) : Result := .next (compareOp s.a (s.readByte (eaAbsX w s)) s)

/-- CMP abs,Y, 0xD9 (44_compare.md R220). -/
def execCmpAbsY (w : Word) (s : State) : Result := .next (compareOp s.a (s.readByte (eaAbsY w s)) s)

/-- CMP (zp,X), 0xC1 (44_compare.md R220). -/
def execCmpIzX (z : Byte) (s : State) : Result := .next (compareOp s.a (s.readByte (eaIzX z s)) s)

/-- CMP (zp),Y, 0xD1 (44_compare.md R220). -/
def execCmpIzY (z : Byte) (s : State) : Result := .next (compareOp s.a (s.readByte (eaIzY z s)) s)

/-- CPX #, 0xE0 (44_compare.md R221). -/
def execCpxImm (v : Byte) (s : State) : Result := .next (compareOp s.x v s)

/-- CPX zp, 0xE4 (44_compare.md R221). -/
def execCpxZp (z : Byte) (s : State) : Result := .next (compareOp s.x (s.readByte (eaZp z)) s)

/-- CPX abs, 0xEC (44_compare.md R221). -/
def execCpxAbs (w : Word) (s : State) : Result := .next (compareOp s.x (s.readByte w) s)

/-- CPY #, 0xC0 (44_compare.md R222). -/
def execCpyImm (v : Byte) (s : State) : Result := .next (compareOp s.y v s)

/-- CPY zp, 0xC4 (44_compare.md R222). -/
def execCpyZp (z : Byte) (s : State) : Result := .next (compareOp s.y (s.readByte (eaZp z)) s)

/-- CPY abs, 0xCC (44_compare.md R222). -/
def execCpyAbs (w : Word) (s : State) : Result := .next (compareOp s.y (s.readByte w) s)

end Sys2Proof.Machine
end

