-- ==== Sys2Proof/Machine/Control.lean ====
section
/-! DEFINITION. The control transfer group (46_control.md). PC is already the address after the whole instruction. -/

namespace Sys2Proof.Machine

/-- JSR: push PC - 1, the address of the instruction's last byte, then jump (46_control.md R262). -/
def jumpSubroutine (target : Word) (s : State) : State := (pushWord (s.pc - 1#16) s).setPc target

/-- RTS: pull the return address and add 1 (46_control.md R263). -/
def returnSubroutine (s : State) : State :=
  let (w, s₁) := pullWord s
  s₁.setPc (w + 1#16)

/-- JMP abs, 0x4C (46_control.md R260). -/
def execJmpAbs (w : Word) (s : State) : Result := .next (s.setPc w)

/-- JMP (abs), 0x6C (46_control.md R261). -/
def execJmpInd (w : Word) (s : State) : Result := .next (s.setPc (eaInd w s))

/-- JSR abs, 0x20 (46_control.md R262). -/
def execJsr (w : Word) (s : State) : Result := .next (jumpSubroutine w s)

/-- RTS, 0x60 (46_control.md R263). -/
def execRts (s : State) : Result := .next (returnSubroutine s)

/-- BRK, 0x00 (46_control.md R264). -/
def execBrk (s : State) : Result := .next (enterInterrupt (s.pc + 1#16) true params.vecIrq s)

/-- RTI, 0x40 (46_control.md R265). -/
def execRti (s : State) : Result := .next (returnFromInterrupt s)

/-- An illegal opcode byte halts the driver (60_exceptions.md R360); PC is still its address (`pcAdvance`). -/
def execIllegal (op : Byte) (s : State) : Result := .next (haltOnIllegal op s)

end Sys2Proof.Machine
end

