-- ==== Sys2Proof/Machine/Alu.lean ====
section
/-! DEFINITION. The ALU group (41_alu.md): ADC, SBC, AND, ORA, EOR, ASL, LSR, ROL, ROR, BIT. The shared operations first, then one
meaning for each row. -/

namespace Sys2Proof.Machine

/-- ADC (41_alu.md R150). Under DECIMAL_POLICY = binary D plays no part (R161); under refuse a step with D = 1 is refused. -/
def adcOp (policy : DecimalPolicy) (v : Byte) (s : State) : Result :=
  if policy = .refuse ∧ s.p.d = true then .refused .decimalMode
  else .next (putSum (sum9 s.a v s.p.c) (addOverflow s.a v (loByte (sum9 s.a v s.p.c))) s)

/-- SBC (41_alu.md R151): the sum of A, the complement of VAL and C; C = 1 means no borrow. -/
def sbcOp (policy : DecimalPolicy) (v : Byte) (s : State) : Result :=
  if policy = .refuse ∧ s.p.d = true then .refused .decimalMode
  else .next (putSum (sum9 s.a (~~~v) s.p.c) (subOverflow s.a v (loByte (sum9 s.a (~~~v) s.p.c))) s)

/-- `A <- res; SetZN(res)`: the end of AND, ORA, EOR, and of every load and transfer into A. -/
def loadA (v : Byte) (s : State) : State := setZN v (s.setA v)

/-- A shift or rotate of A: `P.C`, `WriteBack(res)` in mode acc, `SetZN(res)` (41_alu.md R155 to R158, R160). -/
def shiftAcc (f : Byte → Bool → Byte × Bool) (s : State) : State :=
  let r := f s.a s.p.c
  setZN r.1 ((s.setA r.1).setP { s.p with c := r.2 })

/-- A shift or rotate of the byte at `ea`: one read and one write of it (41_alu.md R155 to R158, R160). -/
def shiftMem (f : Byte → Bool → Byte × Bool) (ea : Word) (s : State) : State :=
  let r := f (s.readByte ea) s.p.c
  setZN r.1 ((s.writeByte ea r.1).setP { s.p with c := r.2 })

/-- ADC #, 0x69 (41_alu.md R150). -/
def execAdcImm (v : Byte) (s : State) : Result := adcOp params.decimalPolicy v s

/-- ADC zp, 0x65 (41_alu.md R150). -/
def execAdcZp (z : Byte) (s : State) : Result := adcOp params.decimalPolicy (s.readByte (eaZp z)) s

/-- ADC zp,X, 0x75 (41_alu.md R150). -/
def execAdcZpX (z : Byte) (s : State) : Result := adcOp params.decimalPolicy (s.readByte (eaZpX z s)) s

/-- ADC abs, 0x6D (41_alu.md R150). -/
def execAdcAbs (w : Word) (s : State) : Result := adcOp params.decimalPolicy (s.readByte w) s

/-- ADC abs,X, 0x7D (41_alu.md R150). -/
def execAdcAbsX (w : Word) (s : State) : Result := adcOp params.decimalPolicy (s.readByte (eaAbsX w s)) s

/-- ADC abs,Y, 0x79 (41_alu.md R150). -/
def execAdcAbsY (w : Word) (s : State) : Result := adcOp params.decimalPolicy (s.readByte (eaAbsY w s)) s

/-- ADC (zp,X), 0x61 (41_alu.md R150). -/
def execAdcIzX (z : Byte) (s : State) : Result := adcOp params.decimalPolicy (s.readByte (eaIzX z s)) s

/-- ADC (zp),Y, 0x71 (41_alu.md R150). -/
def execAdcIzY (z : Byte) (s : State) : Result := adcOp params.decimalPolicy (s.readByte (eaIzY z s)) s

/-- SBC #, 0xE9 (41_alu.md R151). -/
def execSbcImm (v : Byte) (s : State) : Result := sbcOp params.decimalPolicy v s

/-- SBC zp, 0xE5 (41_alu.md R151). -/
def execSbcZp (z : Byte) (s : State) : Result := sbcOp params.decimalPolicy (s.readByte (eaZp z)) s

/-- SBC zp,X, 0xF5 (41_alu.md R151). -/
def execSbcZpX (z : Byte) (s : State) : Result := sbcOp params.decimalPolicy (s.readByte (eaZpX z s)) s

/-- SBC abs, 0xED (41_alu.md R151). -/
def execSbcAbs (w : Word) (s : State) : Result := sbcOp params.decimalPolicy (s.readByte w) s

/-- SBC abs,X, 0xFD (41_alu.md R151). -/
def execSbcAbsX (w : Word) (s : State) : Result := sbcOp params.decimalPolicy (s.readByte (eaAbsX w s)) s

/-- SBC abs,Y, 0xF9 (41_alu.md R151). -/
def execSbcAbsY (w : Word) (s : State) : Result := sbcOp params.decimalPolicy (s.readByte (eaAbsY w s)) s

/-- SBC (zp,X), 0xE1 (41_alu.md R151). -/
def execSbcIzX (z : Byte) (s : State) : Result := sbcOp params.decimalPolicy (s.readByte (eaIzX z s)) s

/-- SBC (zp),Y, 0xF1 (41_alu.md R151). -/
def execSbcIzY (z : Byte) (s : State) : Result := sbcOp params.decimalPolicy (s.readByte (eaIzY z s)) s

/-- AND #, 0x29 (41_alu.md R152). -/
def execAndImm (v : Byte) (s : State) : Result := .next (loadA (s.a &&& v) s)

/-- AND zp, 0x25 (41_alu.md R152). -/
def execAndZp (z : Byte) (s : State) : Result := .next (loadA (s.a &&& (s.readByte (eaZp z))) s)

/-- AND zp,X, 0x35 (41_alu.md R152). -/
def execAndZpX (z : Byte) (s : State) : Result := .next (loadA (s.a &&& (s.readByte (eaZpX z s))) s)

/-- AND abs, 0x2D (41_alu.md R152). -/
def execAndAbs (w : Word) (s : State) : Result := .next (loadA (s.a &&& (s.readByte w)) s)

/-- AND abs,X, 0x3D (41_alu.md R152). -/
def execAndAbsX (w : Word) (s : State) : Result := .next (loadA (s.a &&& (s.readByte (eaAbsX w s))) s)

/-- AND abs,Y, 0x39 (41_alu.md R152). -/
def execAndAbsY (w : Word) (s : State) : Result := .next (loadA (s.a &&& (s.readByte (eaAbsY w s))) s)

/-- AND (zp,X), 0x21 (41_alu.md R152). -/
def execAndIzX (z : Byte) (s : State) : Result := .next (loadA (s.a &&& (s.readByte (eaIzX z s))) s)

/-- AND (zp),Y, 0x31 (41_alu.md R152). -/
def execAndIzY (z : Byte) (s : State) : Result := .next (loadA (s.a &&& (s.readByte (eaIzY z s))) s)

/-- ORA #, 0x09 (41_alu.md R153). -/
def execOraImm (v : Byte) (s : State) : Result := .next (loadA (s.a ||| v) s)

/-- ORA zp, 0x05 (41_alu.md R153). -/
def execOraZp (z : Byte) (s : State) : Result := .next (loadA (s.a ||| (s.readByte (eaZp z))) s)

/-- ORA zp,X, 0x15 (41_alu.md R153). -/
def execOraZpX (z : Byte) (s : State) : Result := .next (loadA (s.a ||| (s.readByte (eaZpX z s))) s)

/-- ORA abs, 0x0D (41_alu.md R153). -/
def execOraAbs (w : Word) (s : State) : Result := .next (loadA (s.a ||| (s.readByte w)) s)

/-- ORA abs,X, 0x1D (41_alu.md R153). -/
def execOraAbsX (w : Word) (s : State) : Result := .next (loadA (s.a ||| (s.readByte (eaAbsX w s))) s)

/-- ORA abs,Y, 0x19 (41_alu.md R153). -/
def execOraAbsY (w : Word) (s : State) : Result := .next (loadA (s.a ||| (s.readByte (eaAbsY w s))) s)

/-- ORA (zp,X), 0x01 (41_alu.md R153). -/
def execOraIzX (z : Byte) (s : State) : Result := .next (loadA (s.a ||| (s.readByte (eaIzX z s))) s)

/-- ORA (zp),Y, 0x11 (41_alu.md R153). -/
def execOraIzY (z : Byte) (s : State) : Result := .next (loadA (s.a ||| (s.readByte (eaIzY z s))) s)

/-- EOR #, 0x49 (41_alu.md R154). -/
def execEorImm (v : Byte) (s : State) : Result := .next (loadA (s.a ^^^ v) s)

/-- EOR zp, 0x45 (41_alu.md R154). -/
def execEorZp (z : Byte) (s : State) : Result := .next (loadA (s.a ^^^ (s.readByte (eaZp z))) s)

/-- EOR zp,X, 0x55 (41_alu.md R154). -/
def execEorZpX (z : Byte) (s : State) : Result := .next (loadA (s.a ^^^ (s.readByte (eaZpX z s))) s)

/-- EOR abs, 0x4D (41_alu.md R154). -/
def execEorAbs (w : Word) (s : State) : Result := .next (loadA (s.a ^^^ (s.readByte w)) s)

/-- EOR abs,X, 0x5D (41_alu.md R154). -/
def execEorAbsX (w : Word) (s : State) : Result := .next (loadA (s.a ^^^ (s.readByte (eaAbsX w s))) s)

/-- EOR abs,Y, 0x59 (41_alu.md R154). -/
def execEorAbsY (w : Word) (s : State) : Result := .next (loadA (s.a ^^^ (s.readByte (eaAbsY w s))) s)

/-- EOR (zp,X), 0x41 (41_alu.md R154). -/
def execEorIzX (z : Byte) (s : State) : Result := .next (loadA (s.a ^^^ (s.readByte (eaIzX z s))) s)

/-- EOR (zp),Y, 0x51 (41_alu.md R154). -/
def execEorIzY (z : Byte) (s : State) : Result := .next (loadA (s.a ^^^ (s.readByte (eaIzY z s))) s)

/-- ASL A, 0x0A (41_alu.md R155). -/
def execAslAcc (s : State) : Result := .next (shiftAcc aslByte s)

/-- ASL zp, 0x06 (41_alu.md R155). -/
def execAslZp (z : Byte) (s : State) : Result := .next (shiftMem aslByte (eaZp z) s)

/-- ASL zp,X, 0x16 (41_alu.md R155). -/
def execAslZpX (z : Byte) (s : State) : Result := .next (shiftMem aslByte (eaZpX z s) s)

/-- ASL abs, 0x0E (41_alu.md R155). -/
def execAslAbs (w : Word) (s : State) : Result := .next (shiftMem aslByte w s)

/-- ASL abs,X, 0x1E (41_alu.md R155). -/
def execAslAbsX (w : Word) (s : State) : Result := .next (shiftMem aslByte (eaAbsX w s) s)

/-- LSR A, 0x4A (41_alu.md R156). -/
def execLsrAcc (s : State) : Result := .next (shiftAcc lsrByte s)

/-- LSR zp, 0x46 (41_alu.md R156). -/
def execLsrZp (z : Byte) (s : State) : Result := .next (shiftMem lsrByte (eaZp z) s)

/-- LSR zp,X, 0x56 (41_alu.md R156). -/
def execLsrZpX (z : Byte) (s : State) : Result := .next (shiftMem lsrByte (eaZpX z s) s)

/-- LSR abs, 0x4E (41_alu.md R156). -/
def execLsrAbs (w : Word) (s : State) : Result := .next (shiftMem lsrByte w s)

/-- LSR abs,X, 0x5E (41_alu.md R156). -/
def execLsrAbsX (w : Word) (s : State) : Result := .next (shiftMem lsrByte (eaAbsX w s) s)

/-- ROL A, 0x2A (41_alu.md R157). -/
def execRolAcc (s : State) : Result := .next (shiftAcc rolByte s)

/-- ROL zp, 0x26 (41_alu.md R157). -/
def execRolZp (z : Byte) (s : State) : Result := .next (shiftMem rolByte (eaZp z) s)

/-- ROL zp,X, 0x36 (41_alu.md R157). -/
def execRolZpX (z : Byte) (s : State) : Result := .next (shiftMem rolByte (eaZpX z s) s)

/-- ROL abs, 0x2E (41_alu.md R157). -/
def execRolAbs (w : Word) (s : State) : Result := .next (shiftMem rolByte w s)

/-- ROL abs,X, 0x3E (41_alu.md R157). -/
def execRolAbsX (w : Word) (s : State) : Result := .next (shiftMem rolByte (eaAbsX w s) s)

/-- ROR A, 0x6A (41_alu.md R158). -/
def execRorAcc (s : State) : Result := .next (shiftAcc rorByte s)

/-- ROR zp, 0x66 (41_alu.md R158). -/
def execRorZp (z : Byte) (s : State) : Result := .next (shiftMem rorByte (eaZp z) s)

/-- ROR zp,X, 0x76 (41_alu.md R158). -/
def execRorZpX (z : Byte) (s : State) : Result := .next (shiftMem rorByte (eaZpX z s) s)

/-- ROR abs, 0x6E (41_alu.md R158). -/
def execRorAbs (w : Word) (s : State) : Result := .next (shiftMem rorByte w s)

/-- ROR abs,X, 0x7E (41_alu.md R158). -/
def execRorAbsX (w : Word) (s : State) : Result := .next (shiftMem rorByte (eaAbsX w s) s)

/-- BIT zp, 0x24 (41_alu.md R159). -/
def execBitZp (z : Byte) (s : State) : Result := .next (bitTest (s.readByte (eaZp z)) s)

/-- BIT abs, 0x2C (41_alu.md R159). -/
def execBitAbs (w : Word) (s : State) : Result := .next (bitTest (s.readByte w) s)

end Sys2Proof.Machine
end

