-- ==== Sys2Proof/Machine/LoadStore.lean ====
section
/-! DEFINITION. The load and store group (42_load_store.md): loads set N and Z, stores change no flag and do not read their
target. -/

namespace Sys2Proof.Machine

/-- `X <- v; SetZN(v)`. -/
def loadX (v : Byte) (s : State) : State := setZN v (s.setX v)

/-- `Y <- v; SetZN(v)`. -/
def loadY (v : Byte) (s : State) : State := setZN v (s.setY v)

/-- LDA #, 0xA9 (42_load_store.md R180). -/
def execLdaImm (v : Byte) (s : State) : Result := .next (loadA v s)

/-- LDA zp, 0xA5 (42_load_store.md R180). -/
def execLdaZp (z : Byte) (s : State) : Result := .next (loadA (s.readByte (eaZp z)) s)

/-- LDA zp,X, 0xB5 (42_load_store.md R180). -/
def execLdaZpX (z : Byte) (s : State) : Result := .next (loadA (s.readByte (eaZpX z s)) s)

/-- LDA abs, 0xAD (42_load_store.md R180). -/
def execLdaAbs (w : Word) (s : State) : Result := .next (loadA (s.readByte w) s)

/-- LDA abs,X, 0xBD (42_load_store.md R180). -/
def execLdaAbsX (w : Word) (s : State) : Result := .next (loadA (s.readByte (eaAbsX w s)) s)

/-- LDA abs,Y, 0xB9 (42_load_store.md R180). -/
def execLdaAbsY (w : Word) (s : State) : Result := .next (loadA (s.readByte (eaAbsY w s)) s)

/-- LDA (zp,X), 0xA1 (42_load_store.md R180). -/
def execLdaIzX (z : Byte) (s : State) : Result := .next (loadA (s.readByte (eaIzX z s)) s)

/-- LDA (zp),Y, 0xB1 (42_load_store.md R180). -/
def execLdaIzY (z : Byte) (s : State) : Result := .next (loadA (s.readByte (eaIzY z s)) s)

/-- LDX #, 0xA2 (42_load_store.md R181). -/
def execLdxImm (v : Byte) (s : State) : Result := .next (loadX v s)

/-- LDX zp, 0xA6 (42_load_store.md R181). -/
def execLdxZp (z : Byte) (s : State) : Result := .next (loadX (s.readByte (eaZp z)) s)

/-- LDX zp,Y, 0xB6 (42_load_store.md R181). -/
def execLdxZpY (z : Byte) (s : State) : Result := .next (loadX (s.readByte (eaZpY z s)) s)

/-- LDX abs, 0xAE (42_load_store.md R181). -/
def execLdxAbs (w : Word) (s : State) : Result := .next (loadX (s.readByte w) s)

/-- LDX abs,Y, 0xBE (42_load_store.md R181). -/
def execLdxAbsY (w : Word) (s : State) : Result := .next (loadX (s.readByte (eaAbsY w s)) s)

/-- LDY #, 0xA0 (42_load_store.md R182). -/
def execLdyImm (v : Byte) (s : State) : Result := .next (loadY v s)

/-- LDY zp, 0xA4 (42_load_store.md R182). -/
def execLdyZp (z : Byte) (s : State) : Result := .next (loadY (s.readByte (eaZp z)) s)

/-- LDY zp,X, 0xB4 (42_load_store.md R182). -/
def execLdyZpX (z : Byte) (s : State) : Result := .next (loadY (s.readByte (eaZpX z s)) s)

/-- LDY abs, 0xAC (42_load_store.md R182). -/
def execLdyAbs (w : Word) (s : State) : Result := .next (loadY (s.readByte w) s)

/-- LDY abs,X, 0xBC (42_load_store.md R182). -/
def execLdyAbsX (w : Word) (s : State) : Result := .next (loadY (s.readByte (eaAbsX w s)) s)

/-- STA zp, 0x85 (42_load_store.md R183). -/
def execStaZp (z : Byte) (s : State) : Result := .next (s.writeByte (eaZp z) s.a)

/-- STA zp,X, 0x95 (42_load_store.md R183). -/
def execStaZpX (z : Byte) (s : State) : Result := .next (s.writeByte (eaZpX z s) s.a)

/-- STA abs, 0x8D (42_load_store.md R183). -/
def execStaAbs (w : Word) (s : State) : Result := .next (s.writeByte w s.a)

/-- STA abs,X, 0x9D (42_load_store.md R183). -/
def execStaAbsX (w : Word) (s : State) : Result := .next (s.writeByte (eaAbsX w s) s.a)

/-- STA abs,Y, 0x99 (42_load_store.md R183). -/
def execStaAbsY (w : Word) (s : State) : Result := .next (s.writeByte (eaAbsY w s) s.a)

/-- STA (zp,X), 0x81 (42_load_store.md R183). -/
def execStaIzX (z : Byte) (s : State) : Result := .next (s.writeByte (eaIzX z s) s.a)

/-- STA (zp),Y, 0x91 (42_load_store.md R183). -/
def execStaIzY (z : Byte) (s : State) : Result := .next (s.writeByte (eaIzY z s) s.a)

/-- STX zp, 0x86 (42_load_store.md R184). -/
def execStxZp (z : Byte) (s : State) : Result := .next (s.writeByte (eaZp z) s.x)

/-- STX zp,Y, 0x96 (42_load_store.md R184). -/
def execStxZpY (z : Byte) (s : State) : Result := .next (s.writeByte (eaZpY z s) s.x)

/-- STX abs, 0x8E (42_load_store.md R184). -/
def execStxAbs (w : Word) (s : State) : Result := .next (s.writeByte w s.x)

/-- STY zp, 0x84 (42_load_store.md R185). -/
def execStyZp (z : Byte) (s : State) : Result := .next (s.writeByte (eaZp z) s.y)

/-- STY zp,X, 0x94 (42_load_store.md R185). -/
def execStyZpX (z : Byte) (s : State) : Result := .next (s.writeByte (eaZpX z s) s.y)

/-- STY abs, 0x8C (42_load_store.md R185). -/
def execStyAbs (w : Word) (s : State) : Result := .next (s.writeByte w s.y)

end Sys2Proof.Machine
end

