-- ==== Sys2Proof/Machine/IncDec.lean ====
section
/-! DEFINITION. The increment and decrement group (43_incdec.md): plus or minus one modulo 256, N and Z only. -/

namespace Sys2Proof.Machine

/-- Replace the byte at `ea` by `f` of it and set Z and N from the result: one read and one write (43_incdec.md R200, R201). -/
def modifyMem (f : Byte → Byte) (ea : Word) (s : State) : State :=
  setZN (f (s.readByte ea)) (s.writeByte ea (f (s.readByte ea)))

/-- INC zp, 0xE6 (43_incdec.md R200). -/
def execIncZp (z : Byte) (s : State) : Result := .next (modifyMem (· + 1#8) (eaZp z) s)

/-- INC zp,X, 0xF6 (43_incdec.md R200). -/
def execIncZpX (z : Byte) (s : State) : Result := .next (modifyMem (· + 1#8) (eaZpX z s) s)

/-- INC abs, 0xEE (43_incdec.md R200). -/
def execIncAbs (w : Word) (s : State) : Result := .next (modifyMem (· + 1#8) w s)

/-- INC abs,X, 0xFE (43_incdec.md R200). -/
def execIncAbsX (w : Word) (s : State) : Result := .next (modifyMem (· + 1#8) (eaAbsX w s) s)

/-- DEC zp, 0xC6 (43_incdec.md R201). -/
def execDecZp (z : Byte) (s : State) : Result := .next (modifyMem (· - 1#8) (eaZp z) s)

/-- DEC zp,X, 0xD6 (43_incdec.md R201). -/
def execDecZpX (z : Byte) (s : State) : Result := .next (modifyMem (· - 1#8) (eaZpX z s) s)

/-- DEC abs, 0xCE (43_incdec.md R201). -/
def execDecAbs (w : Word) (s : State) : Result := .next (modifyMem (· - 1#8) w s)

/-- DEC abs,X, 0xDE (43_incdec.md R201). -/
def execDecAbsX (w : Word) (s : State) : Result := .next (modifyMem (· - 1#8) (eaAbsX w s) s)

/-- INX, 0xE8 (43_incdec.md R202). -/
def execInx (s : State) : Result := .next (loadX (s.x + 1#8) s)

/-- INY, 0xC8 (43_incdec.md R203). -/
def execIny (s : State) : Result := .next (loadY (s.y + 1#8) s)

/-- DEX, 0xCA (43_incdec.md R204). -/
def execDex (s : State) : Result := .next (loadX (s.x - 1#8) s)

/-- DEY, 0x88 (43_incdec.md R205). -/
def execDey (s : State) : Result := .next (loadY (s.y - 1#8) s)

end Sys2Proof.Machine
end

