-- ==== Sys2Proof/Machine/Stack.lean ====
section
/-! DEFINITION. The stack group (47_stack.md). -/

namespace Sys2Proof.Machine

/-- PLA: pull, load A, set N and Z (47_stack.md R285). -/
def pullA (s : State) : State :=
  let (v, s₁) := pull s
  loadA v s₁

/-- PHA, 0x48 (47_stack.md R284). -/
def execPha (s : State) : Result := .next (push s.a s)

/-- PLA, 0x68 (47_stack.md R285). -/
def execPla (s : State) : Result := .next (pullA s)

/-- PHP, 0x08 (47_stack.md R286). -/
def execPhp (s : State) : Result := .next (push (statusByte s.p true) s)

/-- PLP, 0x28 (47_stack.md R287). -/
def execPlp (s : State) : Result := .next (pullFlags s)

end Sys2Proof.Machine
end

