-- ==== Sys2Proof/Machine/TransferFlag.lean ====
section
/-! DEFINITION. The register transfer and flag group (48_transfer_flag.md). -/

namespace Sys2Proof.Machine

/-- TAX, 0xAA (48_transfer_flag.md R300). -/
def execTax (s : State) : Result := .next (loadX s.a s)

/-- TXA, 0x8A (48_transfer_flag.md R301). -/
def execTxa (s : State) : Result := .next (loadA s.x s)

/-- TAY, 0xA8 (48_transfer_flag.md R302). -/
def execTay (s : State) : Result := .next (loadY s.a s)

/-- TYA, 0x98 (48_transfer_flag.md R303). -/
def execTya (s : State) : Result := .next (loadA s.y s)

/-- TSX, 0xBA (48_transfer_flag.md R304). -/
def execTsx (s : State) : Result := .next (loadX s.s s)

/-- TXS, 0x9A (48_transfer_flag.md R305). -/
def execTxs (s : State) : Result := .next (s.setS s.x)

/-- CLC, 0x18 (48_transfer_flag.md R306). -/
def execClc (s : State) : Result := .next (s.setFlag .c false)

/-- SEC, 0x38 (48_transfer_flag.md R307). -/
def execSec (s : State) : Result := .next (s.setFlag .c true)

/-- CLI, 0x58 (48_transfer_flag.md R308). -/
def execCli (s : State) : Result := .next (s.setFlag .i false)

/-- SEI, 0x78 (48_transfer_flag.md R309). -/
def execSei (s : State) : Result := .next (s.setFlag .i true)

/-- CLD, 0xD8 (48_transfer_flag.md R310). -/
def execCld (s : State) : Result := .next (s.setFlag .d false)

/-- SED, 0xF8 (48_transfer_flag.md R311). -/
def execSed (s : State) : Result := .next (s.setFlag .d true)

/-- CLV, 0xB8 (48_transfer_flag.md R312). -/
def execClv (s : State) : Result := .next (s.setFlag .v false)

/-- NOP, 0xEA (48_transfer_flag.md R313). -/
def execNop (s : State) : Result := .next s

end Sys2Proof.Machine
end

