-- ==== Sys2Proof/Machine/Step.lean ====
section
/-! DEFINITION. One `step` of the driver (49_driver.md R330). -/

namespace Sys2Proof.Machine

/-- `step()` (49_driver.md R330): while Halted the error again; else fetch and decode at PC, advance PC past the whole
instruction, and execute. -/
def step (s : State) : Host.Outcome State Fault Refusal :=
  match s.runState with
  | .halted => stepHalted s
  | .running => exec (fetchInstr s) (advancePc (fetchInstr s) s)

/-- `s` with a word of spec/opcode_table.json stored where `step` fetches its next instruction (log entry 7). -/
def State.withFetchWord (s : State) (nbits w : Nat) : State := placeProgram (tableBytes nbits w) s

end Sys2Proof.Machine
end

