-- ==== Sys2Proof/Machine/HostCalls.lean ====
section
/-! DEFINITION. What the host does between steps (49_driver.md R338): `reset`, `raise_irq`, `raise_nmi`, register, flag and
memory writes, and `step` with the result it returns; and the launch of a run (70_reset_and_hazards.md R400). -/

namespace Sys2Proof.Machine

/-- `reset()` (70_reset_and_hazards.md R401): S less 3 with no write, I set, PC from the reset vector, Running. `unspecified`
is the value halt_opcode takes, which the spec does not fix: a free argument. DESIGN CHOICE, log entry 3 (safe). -/
def applyReset (unspecified : Byte) (s : State) : State :=
  { s with
    s := s.s - 3#8
    p := { s.p with i := true }
    pc := s.readWord params.vecReset
    runState := .running
    haltOpcode := unspecified }

/-- `raise_irq()` (60_exceptions.md R365): dropped while Halted or masked, else an entry that pushes PC itself. -/
def raiseIrq (s : State) : State :=
  if s.runState = .halted then s
  else if s.p.i then s
  else enterInterrupt s.pc false params.vecIrq s

/-- `raise_nmi()` (60_exceptions.md R367): dropped while Halted, never masked. -/
def raiseNmi (s : State) : State :=
  if s.runState = .halted then s else enterInterrupt s.pc false params.vecNmi s

/-- A host write of PC, which also leaves Halted (60_exceptions.md R362). `unspecified` is the value halt_opcode then has: it
is meaningful only while Halted (10_state.md R30) and any value while Running (93_implementation_defined.md U7), so it is a
free argument here as in `applyReset`. DESIGN CHOICE, log entry 3 (safe). -/
def hostSetPc (v : Word) (unspecified : Byte) (s : State) : State :=
  { s with pc := v, runState := .running, haltOpcode := unspecified }

/-- A host write of P as a byte: bit 5 is discarded, bit 4 is stored (10_state.md R26, R27). -/
def hostSetP (v : Byte) (s : State) : State := s.setP (flagsOfByte v)

/-- What the host does between steps (49_driver.md R338), each atomic. Its reads of registers and memory change nothing. -/
inductive HostAction where
  | reset (unspecified : Byte)
  | raiseIrq
  | raiseNmi
  | setA (v : Byte)
  | setX (v : Byte)
  | setY (v : Byte)
  | setS (v : Byte)
  | setPc (v : Word) (unspecified : Byte)
  | setP (v : Byte)
  | setFlag (f : Flag) (new : Bool)
  | writeByte (addr : Word) (v : Byte)
  | writeWord (addr : Word) (v : Word)
deriving DecidableEq, Repr

/-- The host's calls: a step, or an action between steps (49_driver.md R338). -/
inductive HostCall where
  | step
  | act (a : HostAction)
deriving DecidableEq, Repr

/-- The state that an action leaves. Every action completes. -/
def hostAction (a : HostAction) (s : State) : State :=
  match a with
  | .reset unspecified => applyReset unspecified s
  | .raiseIrq => Sys2Proof.Machine.raiseIrq s
  | .raiseNmi => Sys2Proof.Machine.raiseNmi s
  | .setA v => s.setA v
  | .setX v => s.setX v
  | .setY v => s.setY v
  | .setS v => s.setS v
  | .setPc v unspecified => hostSetPc v unspecified s
  | .setP v => hostSetP v s
  | .setFlag f new => s.setFlag f new
  | .writeByte addr v => s.writeByte addr v
  | .writeWord addr v => s.writeWord addr v

/-- The state that a list of actions leaves. -/
def hostActions (l : List HostAction) (s : State) : State := l.foldl (fun t a => hostAction a t) s

/-- `step` as the host sees it: the state it leaves and its return value, `none` for `Ok(())` and `some b` for
`Err(IllegalOpcode(b))` (49_driver.md R335, 60_exceptions.md R360, R361). -/
def hostStep (s : State) : Host.Outcome (State × Option Byte) Fault Refusal :=
  match step s with
  | .next t => .next (t, stepResult t)
  | .fault (.illegalOpcode op) => .next (s, some op)
  | .refused r => .refused r

/-- One host call. An action returns nothing. -/
def hostCall (c : HostCall) (s : State) : Host.Outcome (State × Option Byte) Fault Refusal :=
  match c with
  | .step => hostStep s
  | .act a => .next (hostAction a s, none)

/-- A schedule of host calls, performed in order (60_exceptions.md R368): the state after the last one. -/
def runCalls : List HostCall → State → Host.Outcome State Fault Refusal
  | [], s => .next s
  | c :: rest, s =>
    match hostCall c s with
    | .next (t, _) => runCalls rest t
    | .fault r => .fault r
    | .refused r => .refused r

/-- POWER_ON_REGS: the draw of the registers and the stored flags before the first reset (70_reset_and_hazards.md R400). -/
structure PowerOn where
  a : Byte
  x : Byte
  y : Byte
  s : Byte
  pc : Word
  p : Flags
deriving DecidableEq, Repr

/-- The state that `reset()` gives when applied to POWER_ON_REGS and MEM_INIT (70_reset_and_hazards.md R400). The run state
before the first reset is undefined; `applyReset` writes it, so the value here plays no part (log entry 13). -/
def launch (regs : PowerOn) (memInit : Memory) (unspecified : Byte) : State :=
  applyReset unspecified
    { a := regs.a, x := regs.x, y := regs.y, s := regs.s, pc := regs.pc, p := regs.p,
      runState := .halted, haltOpcode := unspecified, mem := memInit }

/-- The power-on draw that `State.reset` takes: all zero. DESIGN CHOICE, log entry 2 (unsafe). -/
def zeroPowerOn : PowerOn where
  a := 0#8
  x := 0#8
  y := 0#8
  s := 0#8
  pc := 0#16
  p := flagsOfByte 0#8

end Sys2Proof.Machine
end

