-- ==== Sys2Proof/Machine/Bus.lean ====
section
/-! DEFINITION. The bus accesses of one step, in the order of 49_driver.md R336, and of the host's calls. The trace is computed from
the state before and is no part of State (10_state.md R31; log entry 9). -/

namespace Sys2Proof.Machine

/-- One byte access on the memory bus (20_memory.md R66). -/
inductive BusAccess where
  | read (addr : Word)
  | write (addr : Word) (v : Byte)
deriving DecidableEq, Repr

/-- Whether an operation consumes a value in its memory modes (40_addressing.md R133). -/
def consumesValue : Operation → Bool
  | .adc | .sbc | .and | .ora | .eor | .cmp | .cpx | .cpy | .bit | .lda | .ldx | .ldy
  | .asl | .lsr | .rol | .ror | .inc | .dec => true
  | _ => false

/-- The pointer reads of a mode, low byte first (40_addressing.md R129, R131, R132). -/
def pointerReads (o : Operand) (s : State) : List BusAccess :=
  match o with
  | .izX z => [.read (zext16 (z + s.x)), .read (zpPtrHigh params.zpPtrWrap (z + s.x))]
  | .izY z => [.read (zext16 z), .read (zpPtrHigh params.zpPtrWrap z)]
  | .ind w => [.read w, .read (indPtrHigh params.jmpIndPageWrap w)]
  | _ => []

/-- The read of the operand's byte, for an operation that consumes a value (40_addressing.md R133). -/
def valueReads (o : Operation) (m : Operand) (s : State) : List BusAccess :=
  if consumesValue o then ((resolveEa m s).map BusAccess.read).toList else []

/-- The write of a store or of a read-modify-write result; none in mode acc. -/
def storeAccess (m : Operand) (v : Byte) (s : State) : List BusAccess :=
  ((resolveEa m s).map (BusAccess.write · v)).toList

/-- The byte that a read-modify-write instruction reads, or A in mode acc. -/
def operandByte (m : Operand) (s : State) : Byte := (resolveVal m s).getD 0#8

/-- The accesses of an interrupt entry (46_control.md R264, 60_exceptions.md R366): three pushes, then the vector, low byte first. -/
def entryAccesses (ret : Word) (b : Bool) (vec : Word) (s : State) : List BusAccess :=
  [.write (stackAddr s.s) (hiByte ret), .write (stackAddr (s.s - 1#8)) (loByte ret),
   .write (stackAddr (s.s - 2#8)) (statusByte s.p b), .read vec, .read (vec + 1#16)]

/-- The instruction's own accesses, in the order its rule lists them (49_driver.md R336, item 5). -/
def ownAccesses (o : Operation) (m : Operand) (s : State) : List BusAccess :=
  match o with
  | .sta => storeAccess m s.a s
  | .stx => storeAccess m s.x s
  | .sty => storeAccess m s.y s
  | .asl => storeAccess m (aslByte (operandByte m s) s.p.c).1 s
  | .lsr => storeAccess m (lsrByte (operandByte m s) s.p.c).1 s
  | .rol => storeAccess m (rolByte (operandByte m s) s.p.c).1 s
  | .ror => storeAccess m (rorByte (operandByte m s) s.p.c).1 s
  | .inc => storeAccess m (operandByte m s + 1#8) s
  | .dec => storeAccess m (operandByte m s - 1#8) s
  | .pha => [.write (stackAddr s.s) s.a]
  | .php => [.write (stackAddr s.s) (statusByte s.p true)]
  | .pla | .plp => [.read (stackAddr (s.s + 1#8))]
  | .jsr =>
    [.write (stackAddr s.s) (hiByte (s.pc - 1#16)), .write (stackAddr (s.s - 1#8)) (loByte (s.pc - 1#16))]
  | .rts => [.read (stackAddr (s.s + 1#8)), .read (stackAddr (s.s + 2#8))]
  | .brk => entryAccesses (s.pc + 1#16) true params.vecIrq s
  | .rti => [.read (stackAddr (s.s + 1#8)), .read (stackAddr (s.s + 2#8)), .read (stackAddr (s.s + 3#8))]
  | _ => []

/-- The operand reads at `pc0 + 1` and `pc0 + 2` (49_driver.md R332). -/
def operandReads (i : Instr) (pc : Word) : List BusAccess :=
  (List.range i.operandBytes).map fun k => .read (pc + BitVec.ofNat 16 (k + 1))

/-- Every access after the opcode fetch; an illegal byte makes none (60_exceptions.md R360). -/
def instrAccesses (i : Instr) (s : State) : List BusAccess :=
  match i.operation with
  | none => []
  | some o =>
    operandReads i s.pc ++ pointerReads i.operand (advancePc i s) ++ valueReads o i.operand (advancePc i s) ++
      ownAccesses o i.operand (advancePc i s)

/-- The bus accesses of one step (49_driver.md R336); none while Halted (60_exceptions.md R361). -/
def stepAccesses (s : State) : List BusAccess :=
  match s.runState with
  | .halted => []
  | .running => .read s.pc :: instrAccesses (fetchInstr s) s

/-- The accesses of what the host does between steps: the vector of a reset (70_reset_and_hazards.md R401), an entry that is
taken (60_exceptions.md R365 to R367), and the bytes that a memory write stores (20_memory.md R61, R63). -/
def actionAccesses (a : HostAction) (s : State) : List BusAccess :=
  match a with
  | .reset _ => [.read params.vecReset, .read (params.vecReset + 1#16)]
  | .raiseIrq => if s.runState = .halted ∨ s.p.i = true then [] else entryAccesses s.pc false params.vecIrq s
  | .raiseNmi => if s.runState = .halted then [] else entryAccesses s.pc false params.vecNmi s
  | .writeByte addr v => [.write addr v]
  | .writeWord addr v => [.write addr (loByte v), .write (addr + 1#16) (hiByte v)]
  | .setA _ | .setX _ | .setY _ | .setS _ | .setPc _ _ | .setP _ | .setFlag _ _ => []

/-- What an access does to memory: a read has no side effect (20_memory.md R61). -/
def applyAccess (m : Memory) : BusAccess → Memory
  | .read _ => m
  | .write addr v => memWrite m addr.toNat v

/-- What a list of accesses does to memory. -/
def applyAccesses (l : List BusAccess) (m : Memory) : Memory := l.foldl applyAccess m

end Sys2Proof.Machine
end

