-- ==== Sys2Proof/Machine/MultiCore.lean ====
section
/-! DEFINITION. Several drivers that share one memory (60_exceptions.md R384): each has its own registers and run state, and
the host interleaves whole calls on them: steps, resets, interrupts and writes. 00_scope.md R4 leaves such systems out of
scope; log entry 10. -/

namespace Sys2Proof.Machine

/-- What each driver has of its own (60_exceptions.md R384). -/
structure CoreState where
  a : Byte
  x : Byte
  y : Byte
  s : Byte
  pc : Word
  p : Flags
  runState : RunState
  haltOpcode : Byte
deriving DecidableEq, Repr

/-- Several drivers and their one memory. -/
structure System where
  cores : List CoreState
  mem : Memory
deriving DecidableEq, Repr

/-- A driver together with the shared memory is the state of one core. -/
def joinState (c : CoreState) (m : Memory) : State where
  a := c.a
  x := c.x
  y := c.y
  s := c.s
  pc := c.pc
  p := c.p
  runState := c.runState
  haltOpcode := c.haltOpcode
  mem := m

/-- The driver's own part of a state. -/
def coreOf (s : State) : CoreState where
  a := s.a
  x := s.x
  y := s.y
  s := s.s
  pc := s.pc
  p := s.p
  runState := s.runState
  haltOpcode := s.haltOpcode

/-- One host call on driver `k`, atomic with respect to the others, and what it returns to the host. A step of a Halted driver
returns its error and changes nothing, so every interleaving is possible. A driver that does not exist makes no move. -/
def systemCall (k : Nat) (c : HostCall) (σ : System) : Host.Outcome (System × Option Byte) Fault Refusal :=
  match σ.cores[k]? with
  | none => .next (σ, none)
  | some d =>
    match hostCall c (joinState d σ.mem) with
    | .next (t, r) => .next ({ cores := σ.cores.set k (coreOf t), mem := t.mem }, r)
    | .fault r => .fault r
    | .refused r => .refused r

/-- A schedule: calls, each on the driver it names, in order. -/
def runSystem : List (Nat × HostCall) → System → Host.Outcome System Fault Refusal
  | [], σ => .next σ
  | (k, c) :: rest, σ =>
    match systemCall k c σ with
    | .next (τ, _) => runSystem rest τ
    | .fault r => .fault r
    | .refused r => .refused r

/-- The start: each driver's own `reset` of its power-on values, with the reset vector of the one memory. Each draw comes with
the value halt_opcode takes (log entry 3). -/
def systemLaunch (draws : List (PowerOn × Byte)) (memInit : Memory) : System where
  cores := draws.map fun d => coreOf (launch d.1 memInit d.2)
  mem := memInit

end Sys2Proof.Machine
end

