-- ==== Sys2Proof/Machine/Run.lean ====
section
/-! DEFINITION. A run from a launch to its end (49_driver.md R339, R340, 70_reset_and_hazards.md R400): the launch names the power-on
values, what the host does and END_PC, and the run ends at the first state between two steps that is an end. -/

namespace Sys2Proof.Machine

/-- The two ways in which a run ends (49_driver.md R339). -/
inductive RunEnd where
  /-- Halted on an illegal byte: never a normal end. -/
  | faultEnd (op : Byte)
  /-- Running, at END_PC. -/
  | normalEnd
deriving DecidableEq, Repr

/-- Whether a state between two steps is an end for END_PC, and which (49_driver.md R339). -/
def runEnd (endPc : Word) (s : State) : Option RunEnd :=
  match s.runState with
  | .halted => some (.faultEnd s.haltOpcode)
  | .running => if s.pc = endPc then some .normalEnd else none

/-- How far a run has come. -/
inductive Progress where
  /-- It ended, at this state. -/
  | ended (e : RunEnd) (s : State)
  /-- It has not ended; this is the state before its next step. -/
  | going (s : State)
deriving DecidableEq, Repr

/-- The state of a run. -/
def Progress.state : Progress → State
  | .ended _ s | .going s => s

/-- What the host does between two steps of a run, action by action; the run ends at the first state that is an end. -/
def actUntilEnd (endPc : Word) : List HostAction → State → Progress
  | [], s =>
    match runEnd endPc s with
    | some e => .ended e s
    | none => .going s
  | a :: rest, s =>
    match runEnd endPc s with
    | some e => .ended e s
    | none => actUntilEnd endPc rest (hostAction a s)

/-- At most `n` steps of a run. `schedule` lists what the host does before the first step, between the first and the second,
and so on; where it has no more entries the host only steps. -/
def runSteps (endPc : Word) : Nat → List (List HostAction) → State → Host.Outcome Progress Fault Refusal
  | 0, schedule, s => .next (actUntilEnd endPc (schedule.head?.getD []) s)
  | n + 1, schedule, s =>
    match actUntilEnd endPc (schedule.head?.getD []) s with
    | .ended e t => .next (.ended e t)
    | .going t =>
      match step t with
      | .next u => runSteps endPc n schedule.tail u
      | .fault r => .fault r
      | .refused r => .refused r

/-- A launch: the arguments that 00_scope.md R6 leaves open, and everything the host does in the run (49_driver.md R340). -/
structure Launch where
  /-- POWER_ON_REGS (70_reset_and_hazards.md R400). -/
  regs : PowerOn
  /-- MEM_INIT (70_reset_and_hazards.md R400). -/
  memInit : Memory
  /-- What halt_opcode holds after the reset (log entry 3). -/
  unspecified : Byte
  /-- The host writes that follow the reset and belong to the launch (70_reset_and_hazards.md R400). -/
  writes : List HostAction
  /-- What the host does before each step, the first list before the first step. -/
  schedule : List (List HostAction)
  /-- END_PC (49_driver.md R339). -/
  endPc : Word
deriving DecidableEq, Repr

/-- The state in which a run starts (70_reset_and_hazards.md R400). -/
def Launch.start (l : Launch) : State := hostActions l.writes (launch l.regs l.memInit l.unspecified)

/-- The run of a launch, for at most `n` steps. A start at END_PC is an end: DESIGN CHOICE, log entry 16 (safe). -/
def Launch.run (l : Launch) (n : Nat) : Host.Outcome Progress Fault Refusal := runSteps l.endPc n l.schedule l.start

/-- The run of a launch ends at this state and in this way (49_driver.md R339). -/
def Launch.EndsAt (l : Launch) (e : RunEnd) (s : State) : Prop := ∃ n, l.run n = .next (.ended e s)

/-- The run of a launch is infinite: a hang (49_driver.md R339). -/
def Launch.Hangs (l : Launch) : Prop := ∀ n, ∃ s, l.run n = .next (.going s)

end Sys2Proof.Machine
end

