-- ==== Sys2Proof/Safety.lean ====
section
/-! DEFINITION. The invariant that every step keeps, and when a step runs an instruction. How a run ends is in Machine/Run.lean. -/

namespace Sys2Proof.Machine

/-- What every step keeps: memory is in canonical form, and a Halted driver is frozen at an illegal byte, which is the byte
it recorded (60_exceptions.md R360, R369). -/
structure State.Inv (s : State) : Prop where
  memWf : s.mem.wf = true
  haltWf : s.runState = .halted → s.haltOpcode ∈ illegalBytes ∧ s.readByte s.pc = s.haltOpcode

/-- A state from which `step` runs an instruction (49_driver.md R330). -/
abbrev State.Running (s : State) : Prop := s.runState = .running

end Sys2Proof.Machine
end

