-- ==== Sys2Proof/Certificates/Slice0/Obligations.lean ====
section
/-! DEFINITION. The statements for the provers. Each follows the numbered rules of spec/ that its docstring and OBLIGATIONS.json
name. The helpers before the statements list the forms of each operation and spell out the effects that several
rules share, in the words of those rules. -/

open Sys2Proof Sys2Proof.Machine

namespace Sys2Proof.Spec

/-! ### The forms of each operation, in the order in which its rule lists the modes -/

/-- The forms of ADC (R150). -/
def formsAdc (v : Byte) (z : Byte) (w : Word) : List Instr :=
  [.adcImm v, .adcZp z, .adcZpX z, .adcAbs w, .adcAbsX w, .adcAbsY w, .adcIzX z, .adcIzY z]

/-- The forms of SBC (R151). -/
def formsSbc (v : Byte) (z : Byte) (w : Word) : List Instr :=
  [.sbcImm v, .sbcZp z, .sbcZpX z, .sbcAbs w, .sbcAbsX w, .sbcAbsY w, .sbcIzX z, .sbcIzY z]

/-- The forms of AND (R152). -/
def formsAnd (v : Byte) (z : Byte) (w : Word) : List Instr :=
  [.andImm v, .andZp z, .andZpX z, .andAbs w, .andAbsX w, .andAbsY w, .andIzX z, .andIzY z]

/-- The forms of ORA (R153). -/
def formsOra (v : Byte) (z : Byte) (w : Word) : List Instr :=
  [.oraImm v, .oraZp z, .oraZpX z, .oraAbs w, .oraAbsX w, .oraAbsY w, .oraIzX z, .oraIzY z]

/-- The forms of EOR (R154). -/
def formsEor (v : Byte) (z : Byte) (w : Word) : List Instr :=
  [.eorImm v, .eorZp z, .eorZpX z, .eorAbs w, .eorAbsX w, .eorAbsY w, .eorIzX z, .eorIzY z]

/-- The memory forms of ASL (R155). -/
def formsAsl (z : Byte) (w : Word) : List Instr :=
  [.aslZp z, .aslZpX z, .aslAbs w, .aslAbsX w]

/-- The memory forms of LSR (R156). -/
def formsLsr (z : Byte) (w : Word) : List Instr :=
  [.lsrZp z, .lsrZpX z, .lsrAbs w, .lsrAbsX w]

/-- The memory forms of ROL (R157). -/
def formsRol (z : Byte) (w : Word) : List Instr :=
  [.rolZp z, .rolZpX z, .rolAbs w, .rolAbsX w]

/-- The memory forms of ROR (R158). -/
def formsRor (z : Byte) (w : Word) : List Instr :=
  [.rorZp z, .rorZpX z, .rorAbs w, .rorAbsX w]

/-- The forms of BIT (R159). -/
def formsBit (z : Byte) (w : Word) : List Instr :=
  [.bitZp z, .bitAbs w]

/-- The forms of LDA (R180). -/
def formsLda (v : Byte) (z : Byte) (w : Word) : List Instr :=
  [.ldaImm v, .ldaZp z, .ldaZpX z, .ldaAbs w, .ldaAbsX w, .ldaAbsY w, .ldaIzX z, .ldaIzY z]

/-- The forms of LDX (R181). -/
def formsLdx (v : Byte) (z : Byte) (w : Word) : List Instr :=
  [.ldxImm v, .ldxZp z, .ldxZpY z, .ldxAbs w, .ldxAbsY w]

/-- The forms of LDY (R182). -/
def formsLdy (v : Byte) (z : Byte) (w : Word) : List Instr :=
  [.ldyImm v, .ldyZp z, .ldyZpX z, .ldyAbs w, .ldyAbsX w]

/-- The forms of STA (R183). -/
def formsSta (z : Byte) (w : Word) : List Instr :=
  [.staZp z, .staZpX z, .staAbs w, .staAbsX w, .staAbsY w, .staIzX z, .staIzY z]

/-- The forms of STX (R184). -/
def formsStx (z : Byte) (w : Word) : List Instr :=
  [.stxZp z, .stxZpY z, .stxAbs w]

/-- The forms of STY (R185). -/
def formsSty (z : Byte) (w : Word) : List Instr :=
  [.styZp z, .styZpX z, .styAbs w]

/-- The forms of INC (R200). -/
def formsInc (z : Byte) (w : Word) : List Instr :=
  [.incZp z, .incZpX z, .incAbs w, .incAbsX w]

/-- The forms of DEC (R201). -/
def formsDec (z : Byte) (w : Word) : List Instr :=
  [.decZp z, .decZpX z, .decAbs w, .decAbsX w]

/-- The forms of CMP (R220). -/
def formsCmp (v : Byte) (z : Byte) (w : Word) : List Instr :=
  [.cmpImm v, .cmpZp z, .cmpZpX z, .cmpAbs w, .cmpAbsX w, .cmpAbsY w, .cmpIzX z, .cmpIzY z]

/-- The forms of CPX (R221). -/
def formsCpx (v : Byte) (z : Byte) (w : Word) : List Instr :=
  [.cpxImm v, .cpxZp z, .cpxAbs w]

/-- The forms of CPY (R222). -/
def formsCpy (v : Byte) (z : Byte) (w : Word) : List Instr :=
  [.cpyImm v, .cpyZp z, .cpyAbs w]

/-! ### Effects that several rules share -/

/-- The flags after `SetZN(v)` (00_scope.md R10). -/
def znOf (v : Byte) (f : Flags) : Flags := { f with z := v == 0#8, n := v.getLsbD 7 }

/-- The flags after a shift or rotate with result `res` and carry `c`. -/
def shiftFlags (res : Byte) (c : Bool) (f : Flags) : Flags := { znOf res f with c := c }

/-- The flags after `Compare(R, VAL)` (44_compare.md R223). -/
def compareFlags (r m : Byte) (f : Flags) : Flags :=
  { f with c := decide (m.toNat ≤ r.toNat), z := r == m, n := (r - m).getLsbD 7 }

/-- The stack byte that a value of S selects: `0x0100 | S` (10_state.md R23). -/
def stackByte (sp : Byte) : Word := 0x0100#16 ||| sp.setWidth 16

/-- `StatusByte(b)` as a number: each flag at its bit, bit 5 set, bit 4 the argument (47_stack.md R283). -/
def statusNat (f : Flags) (b : Bool) : Nat :=
  f.n.toNat * 128 + f.v.toNat * 64 + 32 + b.toNat * 16 + f.d.toNat * 8 + f.i.toNat * 4 + f.z.toNat * 2 + f.c.toNat

/-- The flags of a pulled byte; bit 5 is discarded (47_stack.md R287). -/
def pulledFlags (p : Byte) : Flags :=
  { n := p.getLsbD 7, v := p.getLsbD 6, b := p.getLsbD 4, d := p.getLsbD 3, i := p.getLsbD 2, z := p.getLsbD 1,
    c := p.getLsbD 0 }

/-- The state after the three pushes of an interrupt entry: the return address high and low, and StatusByte
(46_control.md R264, 60_exceptions.md R366). -/
def entryPushes (ret : Word) (b : Bool) (s : State) : State :=
  ((s.writeByte (stackByte s.s) (hiByte ret)).writeByte (stackByte (s.s - 1#8)) (loByte ret)).writeByte
    (stackByte (s.s - 2#8)) (BitVec.ofNat 8 (statusNat s.p b))

/-- The whole entry of BRK, IRQ and NMI through the vector whose bytes are at `lo` and `hi`. -/
def entryState (ret : Word) (b : Bool) (lo hi : Word) (s : State) : State :=
  { entryPushes ret b s with
    s := s.s - 3#8
    p := { s.p with i := true }
    pc := mkWord ((entryPushes ret b s).readByte hi) ((entryPushes ret b s).readByte lo) }

/-- The accesses of that entry, in order (49_driver.md R336, 60_exceptions.md R366). -/
def entryTrace (ret : Word) (b : Bool) (lo hi : Word) (s : State) : List BusAccess :=
  [.write (stackByte s.s) (hiByte ret), .write (stackByte (s.s - 1#8)) (loByte ret),
   .write (stackByte (s.s - 2#8)) (BitVec.ofNat 8 (statusNat s.p b)), .read lo, .read hi]

/-- Whether the instruction's operation is in a list. -/
def opIn (i : Instr) (l : List Operation) : Prop := ∃ o ∈ l, i.operation = some o

/-- The operations that write N and Z (10_state.md R32), less PLP and RTI. -/
def nzWriters : List Operation :=
  [.adc, .sbc, .and, .ora, .eor, .asl, .lsr, .rol, .ror, .bit, .lda, .ldx, .ldy, .inc, .dec, .inx, .iny, .dex, .dey,
   .cmp, .cpx, .cpy, .pla, .tax, .txa, .tay, .tya, .tsx]

/-- The operations that store to their effective address: the stores and the memory forms of the read-modify-write ones. -/
def storing : List Operation := [.sta, .stx, .sty, .asl, .lsr, .rol, .ror, .inc, .dec]

/-- The operations that consume a value (40_addressing.md R133). -/
def consuming : List Operation :=
  [.adc, .sbc, .and, .ora, .eor, .cmp, .cpx, .cpy, .bit, .lda, .ldx, .ldy, .asl, .lsr, .rol, .ror, .inc, .dec]

/-- The addresses of a mode's pointer, low byte first, with the default page wraps (40_addressing.md R129 to R132). -/
def pointerBytes (o : Operand) (s : State) : List Word :=
  match o with
  | .izX z => [(z + s.x).setWidth 16, (z + s.x + 1#8).setWidth 16]
  | .izY z => [z.setWidth 16, (z + 1#8).setWidth 16]
  | .ind w => [w, (w &&& 0xFF00#16) ||| ((w + 1#16) &&& 0x00FF#16)]
  | _ => []

/-- The pushes, pulls and vector reads of an operation, with PC already advanced (49_driver.md R336). -/
def stackTrace (o : Operation) (s : State) : List BusAccess :=
  match o with
  | .pha => [.write (stackByte s.s) s.a]
  | .php => [.write (stackByte s.s) (BitVec.ofNat 8 (statusNat s.p true))]
  | .pla | .plp => [.read (stackByte (s.s + 1#8))]
  | .jsr => [.write (stackByte s.s) (hiByte (s.pc - 1#16)), .write (stackByte (s.s - 1#8)) (loByte (s.pc - 1#16))]
  | .rts => [.read (stackByte (s.s + 1#8)), .read (stackByte (s.s + 2#8))]
  | .rti => [.read (stackByte (s.s + 1#8)), .read (stackByte (s.s + 2#8)), .read (stackByte (s.s + 3#8))]
  | .brk => entryTrace (s.pc + 1#16) true 0xFFFE#16 0xFFFF#16 s
  | _ => []

/-- What makes a state the end of a run, and which end (49_driver.md R339). -/
def isEnd (endPc : Word) (e : RunEnd) (s : State) : Prop :=
  match e with
  | .faultEnd op => s.runState = .halted ∧ s.haltOpcode = op
  | .normalEnd => s.runState = .running ∧ s.pc = endPc

/-- The state after a number of steps, if each of them gives a next state. -/
def afterSteps : Nat → State → Option State
  | 0, s => some s
  | n + 1, s =>
    match step s with
    | .next t => afterSteps n t
    | _ => none

/-- The addresses that an instruction stores to, computed as its meaning computes them. -/
def storedAddrs (i : Instr) (s : State) : List Word :=
  match i.operation with
  | some .sta | some .stx | some .sty | some .asl | some .lsr | some .rol | some .ror | some .inc | some .dec =>
    (resolveEa i.operand s).toList
  | some .pha | some .php => [stackByte s.s]
  | some .jsr => [stackByte s.s, stackByte (s.s - 1#8)]
  | some .brk => [stackByte s.s, stackByte (s.s - 1#8), stackByte (s.s - 2#8)]
  | _ => []

/-! ### The opcode map of 30_encoding.md R95, as operation, mode and byte -/

/-- Part 1 of the map. -/
def mapPart1 : List (Operation × AddressingModeKind × Byte) :=
  [(.adc, .immediate, 0x69#8), (.adc, .zeroPage, 0x65#8), (.adc, .zeroPageIndexedWithX, 0x75#8),
   (.adc, .absolute, 0x6D#8), (.adc, .absoluteIndexedWithX, 0x7D#8), (.adc, .absoluteIndexedWithY, 0x79#8),
   (.adc, .indexedIndirect, 0x61#8), (.adc, .indirectIndexed, 0x71#8), (.sbc, .immediate, 0xE9#8),
   (.sbc, .zeroPage, 0xE5#8), (.sbc, .zeroPageIndexedWithX, 0xF5#8), (.sbc, .absolute, 0xED#8),
   (.sbc, .absoluteIndexedWithX, 0xFD#8), (.sbc, .absoluteIndexedWithY, 0xF9#8),
   (.sbc, .indexedIndirect, 0xE1#8), (.sbc, .indirectIndexed, 0xF1#8), (.and, .immediate, 0x29#8),
   (.and, .zeroPage, 0x25#8), (.and, .zeroPageIndexedWithX, 0x35#8), (.and, .absolute, 0x2D#8),
   (.and, .absoluteIndexedWithX, 0x3D#8), (.and, .absoluteIndexedWithY, 0x39#8),
   (.and, .indexedIndirect, 0x21#8), (.and, .indirectIndexed, 0x31#8), (.ora, .immediate, 0x09#8),
   (.ora, .zeroPage, 0x05#8)]

/-- Part 2 of the map. -/
def mapPart2 : List (Operation × AddressingModeKind × Byte) :=
  [(.ora, .zeroPageIndexedWithX, 0x15#8), (.ora, .absolute, 0x0D#8), (.ora, .absoluteIndexedWithX, 0x1D#8),
   (.ora, .absoluteIndexedWithY, 0x19#8), (.ora, .indexedIndirect, 0x01#8), (.ora, .indirectIndexed, 0x11#8),
   (.eor, .immediate, 0x49#8), (.eor, .zeroPage, 0x45#8), (.eor, .zeroPageIndexedWithX, 0x55#8),
   (.eor, .absolute, 0x4D#8), (.eor, .absoluteIndexedWithX, 0x5D#8), (.eor, .absoluteIndexedWithY, 0x59#8),
   (.eor, .indexedIndirect, 0x41#8), (.eor, .indirectIndexed, 0x51#8), (.asl, .accumulator, 0x0A#8),
   (.asl, .zeroPage, 0x06#8), (.asl, .zeroPageIndexedWithX, 0x16#8), (.asl, .absolute, 0x0E#8),
   (.asl, .absoluteIndexedWithX, 0x1E#8), (.lsr, .accumulator, 0x4A#8), (.lsr, .zeroPage, 0x46#8),
   (.lsr, .zeroPageIndexedWithX, 0x56#8), (.lsr, .absolute, 0x4E#8), (.lsr, .absoluteIndexedWithX, 0x5E#8),
   (.rol, .accumulator, 0x2A#8), (.rol, .zeroPage, 0x26#8)]

/-- Part 3 of the map. -/
def mapPart3 : List (Operation × AddressingModeKind × Byte) :=
  [(.rol, .zeroPageIndexedWithX, 0x36#8), (.rol, .absolute, 0x2E#8), (.rol, .absoluteIndexedWithX, 0x3E#8),
   (.ror, .accumulator, 0x6A#8), (.ror, .zeroPage, 0x66#8), (.ror, .zeroPageIndexedWithX, 0x76#8),
   (.ror, .absolute, 0x6E#8), (.ror, .absoluteIndexedWithX, 0x7E#8), (.bit, .zeroPage, 0x24#8),
   (.bit, .absolute, 0x2C#8), (.lda, .immediate, 0xA9#8), (.lda, .zeroPage, 0xA5#8),
   (.lda, .zeroPageIndexedWithX, 0xB5#8), (.lda, .absolute, 0xAD#8), (.lda, .absoluteIndexedWithX, 0xBD#8),
   (.lda, .absoluteIndexedWithY, 0xB9#8), (.lda, .indexedIndirect, 0xA1#8), (.lda, .indirectIndexed, 0xB1#8),
   (.ldx, .immediate, 0xA2#8), (.ldx, .zeroPage, 0xA6#8), (.ldx, .zeroPageIndexedWithY, 0xB6#8),
   (.ldx, .absolute, 0xAE#8), (.ldx, .absoluteIndexedWithY, 0xBE#8), (.ldy, .immediate, 0xA0#8),
   (.ldy, .zeroPage, 0xA4#8), (.ldy, .zeroPageIndexedWithX, 0xB4#8)]

/-- Part 4 of the map. -/
def mapPart4 : List (Operation × AddressingModeKind × Byte) :=
  [(.ldy, .absolute, 0xAC#8), (.ldy, .absoluteIndexedWithX, 0xBC#8), (.sta, .zeroPage, 0x85#8),
   (.sta, .zeroPageIndexedWithX, 0x95#8), (.sta, .absolute, 0x8D#8), (.sta, .absoluteIndexedWithX, 0x9D#8),
   (.sta, .absoluteIndexedWithY, 0x99#8), (.sta, .indexedIndirect, 0x81#8), (.sta, .indirectIndexed, 0x91#8),
   (.stx, .zeroPage, 0x86#8), (.stx, .zeroPageIndexedWithY, 0x96#8), (.stx, .absolute, 0x8E#8),
   (.sty, .zeroPage, 0x84#8), (.sty, .zeroPageIndexedWithX, 0x94#8), (.sty, .absolute, 0x8C#8),
   (.inc, .zeroPage, 0xE6#8), (.inc, .zeroPageIndexedWithX, 0xF6#8), (.inc, .absolute, 0xEE#8),
   (.inc, .absoluteIndexedWithX, 0xFE#8), (.dec, .zeroPage, 0xC6#8), (.dec, .zeroPageIndexedWithX, 0xD6#8),
   (.dec, .absolute, 0xCE#8), (.dec, .absoluteIndexedWithX, 0xDE#8), (.inx, .implied, 0xE8#8),
   (.iny, .implied, 0xC8#8), (.dex, .implied, 0xCA#8)]

/-- Part 5 of the map. -/
def mapPart5 : List (Operation × AddressingModeKind × Byte) :=
  [(.dey, .implied, 0x88#8), (.cmp, .immediate, 0xC9#8), (.cmp, .zeroPage, 0xC5#8),
   (.cmp, .zeroPageIndexedWithX, 0xD5#8), (.cmp, .absolute, 0xCD#8), (.cmp, .absoluteIndexedWithX, 0xDD#8),
   (.cmp, .absoluteIndexedWithY, 0xD9#8), (.cmp, .indexedIndirect, 0xC1#8), (.cmp, .indirectIndexed, 0xD1#8),
   (.cpx, .immediate, 0xE0#8), (.cpx, .zeroPage, 0xE4#8), (.cpx, .absolute, 0xEC#8),
   (.cpy, .immediate, 0xC0#8), (.cpy, .zeroPage, 0xC4#8), (.cpy, .absolute, 0xCC#8), (.bpl, .relative, 0x10#8),
   (.bmi, .relative, 0x30#8), (.bvc, .relative, 0x50#8), (.bvs, .relative, 0x70#8), (.bcc, .relative, 0x90#8),
   (.bcs, .relative, 0xB0#8), (.bne, .relative, 0xD0#8), (.beq, .relative, 0xF0#8), (.jmp, .absolute, 0x4C#8),
   (.jmp, .absoluteIndirect, 0x6C#8), (.jsr, .absolute, 0x20#8)]

/-- Part 6 of the map. -/
def mapPart6 : List (Operation × AddressingModeKind × Byte) :=
  [(.rts, .implied, 0x60#8), (.brk, .implied, 0x00#8), (.rti, .implied, 0x40#8), (.pha, .implied, 0x48#8),
   (.pla, .implied, 0x68#8), (.php, .implied, 0x08#8), (.plp, .implied, 0x28#8), (.tax, .implied, 0xAA#8),
   (.txa, .implied, 0x8A#8), (.tay, .implied, 0xA8#8), (.tya, .implied, 0x98#8), (.tsx, .implied, 0xBA#8),
   (.txs, .implied, 0x9A#8), (.clc, .implied, 0x18#8), (.sec, .implied, 0x38#8), (.cli, .implied, 0x58#8),
   (.sei, .implied, 0x78#8), (.cld, .implied, 0xD8#8), (.sed, .implied, 0xF8#8), (.clv, .implied, 0xB8#8),
   (.nop, .implied, 0xEA#8)]

/-- The 151 legal rows. -/
def opcodeMap : List (Operation × AddressingModeKind × Byte) :=
  mapPart1 ++ mapPart2 ++ mapPart3 ++ mapPart4 ++ mapPart5 ++ mapPart6

end Sys2Proof.Spec

open Sys2Proof.Spec

/-! ### Encoding -/

/-- Decoding an encoded instruction gives it back, with every operand at every value, and leaves the bytes after it
(30_encoding.md R80, R93, R94; encodings R85 to R92). -/
def Obligations.DecodeEncodeRoundTrip : Prop :=
  ∀ i : Instr, WellFormed i → ∀ rest : List Byte, decode (encode i ++ rest) = .ok (i, rest)

/-- Each word has one meaning: encoding what the decoder reads gives back exactly the bytes it reads (30_encoding.md R80, R93, R94). -/
def Obligations.EncodeDecodeRoundTrip : Prop :=
  ∀ op b1 b2 : Byte, encode (decodeInstr op b1 b2) = [op, b1, b2].take (decodeInstr op b1 b2).length

/-- Decoding is total: each byte gives one operation with one of its legal modes, or is illegal (30_encoding.md R82, R91, R92). -/
def Obligations.DecoderYieldsOnlyLegalPairs : Prop :=
  ∀ op b1 b2 : Byte,
    WellFormed (decodeInstr op b1 b2) ∧
    (∀ o k, decodeOpcode op = some (o, k) →
      k ∈ legalModes o ∧ (decodeInstr op b1 b2).operation = some o ∧ (decodeInstr op b1 b2).operand.kind = k) ∧
    (decodeOpcode op = none → decodeInstr op b1 b2 = .illegal op) ∧
    (decodeOpcode op = none ↔ op ∈ illegalBytes)

/-- The group decoder computes exactly the map of 30_encoding.md R95. -/
def Obligations.OpcodeMapOfTheSpec : Prop :=
  ∀ (o : Operation) (k : AddressingModeKind) (b : Byte), decodeOpcode b = some (o, k) ↔ (o, k, b) ∈ opcodeMap

/-- One word for each family, from 30_encoding.md R85 to R90, R93 and R96. -/
def Obligations.DecodesSpecWords : Prop :=
  (decode [0x01#8, 0x34#8]).toOption = some (.oraIzX 0x34#8, []) ∧
  (decode [0x69#8, 0x34#8]).toOption = some (.adcImm 0x34#8, []) ∧
  (decode [0x0A#8]).toOption = some (.aslAcc, []) ∧
  (decode [0xBE#8, 0x34#8, 0x12#8]).toOption = some (.ldxAbsY 0x1234#16, []) ∧
  (decode [0x96#8, 0x34#8]).toOption = some (.stxZpY 0x34#8, []) ∧
  (decode [0xDE#8, 0x34#8, 0x12#8]).toOption = some (.decAbsX 0x1234#16, []) ∧
  (decode [0xC4#8, 0x34#8]).toOption = some (.cpyZp 0x34#8, []) ∧
  (decode [0xF0#8, 0x34#8]).toOption = some (.beq 0x34#8, []) ∧
  (decode [0x6C#8, 0x34#8, 0x12#8]).toOption = some (.jmpInd 0x1234#16, []) ∧
  (decode [0x20#8, 0x34#8, 0x12#8]).toOption = some (.jsr 0x1234#16, []) ∧
  (decode [0x08#8]).toOption = some (.php, []) ∧
  (decode [0xBA#8]).toOption = some (.tsx, [])

/-! ### The driver -/

/-- A step decodes at PC, advances PC past the whole instruction, and executes (49_driver.md R330, R332, R333); for an illegal byte
PC stays (60_exceptions.md R360). -/
def Obligations.StepRunsDecodedInstruction : Prop :=
  ∀ (s : State) (i : Instr) (rest : List Byte), s.runState = .running →
    decode [s.readByte s.pc, s.readByte (s.pc + 1#16), s.readByte (s.pc + 2#16)] = .ok (i, rest) →
    step s = exec i { s with pc := s.pc + BitVec.ofNat 16 (if i.operation.isSome then i.length else 0) }

/-- The IllegalOpcode exception (60_exceptions.md R360; the bytes are those of 30_encoding.md R92). That the Halted state is a next state
is the model's choice, log entry 4. -/
def Obligations.IllegalOpcodeHalts : Prop :=
  ∀ s : State,
    (∀ op : Byte, exec (.illegal op) s = .next { s with runState := .halted, haltOpcode := op }) ∧
    (s.runState = .running → s.readByte s.pc ∈ illegalBytes →
      step s = .next { s with runState := .halted, haltOpcode := s.readByte s.pc } ∧
      hostStep s =
        .next ({ s with runState := .halted, haltOpcode := s.readByte s.pc }, some (s.readByte s.pc)) ∧
      stepAccesses s = [.read s.pc])

/-- 60_exceptions.md R361: no access, no change. That the error returned is the same one is the spec's own choice (R361, 92_eei_decisions.md
D15), and that `step` gives it as a fault is the model's, log entry 4. -/
def Obligations.HaltedStepReturnsErrorAgain : Prop :=
  ∀ s : State, s.runState = .halted →
    step s = .fault (.illegalOpcode s.haltOpcode) ∧ hostStep s = .next (s, some s.haltOpcode) ∧ stepAccesses s = []

/-- Execution is total (49_driver.md R334). That an illegal byte completes too is the model's choice, log entry 4; that nothing refuses
rests on the policy the model runs with, log entries 5 and 14. -/
def Obligations.ExecutionIsTotal : Prop :=
  ∀ (i : Instr) (s : State), ∃ t, exec i s = .next t ∧ (i.operation.isSome = true → t.runState = s.runState)

/-- The two results of step (49_driver.md R335). That the error is read off the Halted state and off the fault of `step` is the model's
choice, log entry 4. A Halted driver may stand at another byte only if the host replaced it (60_exceptions.md R362),
which the invariant rules out. -/
def Obligations.StepReturnsOkOrError : Prop :=
  ∀ s : State, ∃ (t : State) (r : Option Byte), hostStep s = .next (t, r) ∧
    (r = none → s.runState = .running ∧ t.runState = .running ∧
      exec (fetchInstr s) (advancePc (fetchInstr s) s) = .next t) ∧
    (∀ b, r = some b → t = { s with runState := .halted, haltOpcode := b } ∧
      (s.runState = .running → b = s.readByte s.pc ∧ b ∈ illegalBytes) ∧
      (s.Inv → b = t.readByte t.pc))

/-! ### Memory -/

/-- Every read returns the most recent write (20_memory.md R61, R69), and equal memories are equal data. -/
def Obligations.ReadAfterWrite : Prop :=
  (∀ (s : State) (k : Word) (v : Byte), s.mem.wf = true →
    (s.writeByte k v).readByte k = v ∧ (∀ j, j ≠ k → (s.writeByte k v).readByte j = s.readByte j) ∧
    (s.writeByte k v).mem.wf = true ∧ { s.writeByte k v with mem := s.mem } = s) ∧
  (∀ s t : State, s.mem.wf = true → t.mem.wf = true → (∀ k, s.readByte k = t.readByte k) → s.mem = t.mem)

/-- 20_memory.md R63 and R64. -/
def Obligations.WordAccessIsLittleEndian : Prop :=
  ∀ (s : State) (k v : Word),
    (s.readWord k).toNat = (s.readByte (k + 1#16)).toNat * 256 + (s.readByte k).toNat ∧
    s.writeWord k v = (s.writeByte k (v.extractLsb' 0 8)).writeByte (k + 1#16) (v.extractLsb' 8 8) ∧
    (s.readWord 0xFFFF#16).toNat = (s.readByte 0x0000#16).toNat * 256 + (s.readByte 0xFFFF#16).toNat ∧
    (s.mem.wf = true → (s.writeWord k v).readWord k = v)

/-! ### The resolver -/

/-- The resolver, mode by mode (40_addressing.md R122 to R132, R134). -/
def Obligations.ResolverModes : Prop :=
  ∀ (s : State) (v z off : Byte) (w : Word),
    (resolveEa .acc s = none ∧ resolveVal .acc s = some s.a) ∧
    (resolveEa .imp s = none ∧ resolveVal .imp s = none) ∧
    (resolveEa (.imm v) s = none ∧ resolveVal (.imm v) s = some v) ∧
    (resolveEa (.zp z) s = some (z.setWidth 16) ∧ resolveVal (.zp z) s = some (s.readByte (z.setWidth 16))) ∧
    (resolveEa (.zpX z) s = some ((z + s.x).setWidth 16) ∧
      resolveVal (.zpX z) s = some (s.readByte ((z + s.x).setWidth 16))) ∧
    (resolveEa (.zpY z) s = some ((z + s.y).setWidth 16) ∧
      resolveVal (.zpY z) s = some (s.readByte ((z + s.y).setWidth 16))) ∧
    (resolveEa (.abs w) s = some w ∧ resolveVal (.abs w) s = some (s.readByte w)) ∧
    (resolveEa (.absX w) s = some (w + s.x.setWidth 16) ∧
      resolveVal (.absX w) s = some (s.readByte (w + s.x.setWidth 16))) ∧
    (resolveEa (.absY w) s = some (w + s.y.setWidth 16) ∧
      resolveVal (.absY w) s = some (s.readByte (w + s.y.setWidth 16))) ∧
    (∃ ea, ea = mkWord (s.readByte ((z + s.x + 1#8).setWidth 16)) (s.readByte ((z + s.x).setWidth 16)) ∧
      resolveEa (.izX z) s = some ea ∧ resolveVal (.izX z) s = some (s.readByte ea)) ∧
    (∃ ea, ea = mkWord (s.readByte ((z + 1#8).setWidth 16)) (s.readByte (z.setWidth 16)) + s.y.setWidth 16 ∧
      resolveEa (.izY z) s = some ea ∧ resolveVal (.izY z) s = some (s.readByte ea)) ∧
    (zpPointer false z s = mkWord (s.readByte (z.setWidth 16 + 1#16)) (s.readByte (z.setWidth 16))) ∧
    (resolveEa (.ind w) s =
        some (mkWord (s.readByte ((w &&& 0xFF00#16) ||| ((w + 1#16) &&& 0x00FF#16))) (s.readByte w)) ∧
      resolveVal (.ind w) s = none ∧
      indPointer false w s = mkWord (s.readByte (w + 1#16)) (s.readByte w)) ∧
    (resolveEa (.rel off) s = some (s.pc + off.signExtend 16) ∧ resolveVal (.rel off) s = none)

/-- The wraps of 40_addressing.md R127, R128, R130, R132 and R134, as arithmetic on numbers. -/
def Obligations.AddressArithmetic : Prop :=
  ∀ (s : State) (z off : Byte) (w : Word),
    (∀ ea, resolveEa (.zpX z) s = some ea → ea.toNat = (z.toNat + s.x.toNat) % 256) ∧
    (∀ ea, resolveEa (.zpY z) s = some ea → ea.toNat = (z.toNat + s.y.toNat) % 256) ∧
    (∀ ea, resolveEa (.absX w) s = some ea → ea.toNat = (w.toNat + s.x.toNat) % 65536) ∧
    (∀ ea, resolveEa (.absY w) s = some ea → ea.toNat = (w.toNat + s.y.toNat) % 65536) ∧
    (zpPtrHigh true z).toNat = (z.toNat + 1) % 256 ∧
    (zpPtrHigh false z).toNat = z.toNat + 1 ∧
    (indPtrHigh true w).toNat = w.toNat / 256 * 256 + (w.toNat + 1) % 256 ∧
    (indPtrHigh false w).toNat = (w.toNat + 1) % 65536 ∧
    (∀ ea, resolveEa (.rel off) s = some ea → (ea.toNat : Int) = (s.pc.toNat + off.toInt) % 65536)

/-! ### The ALU group -/

/-- 41_alu.md R150. -/
def Obligations.AdcResult : Prop :=
  ∀ (v z : Byte) (w : Word) (s : State),
    (formsAdc v z w).map Instr.opcode = [0x69#8, 0x65#8, 0x75#8, 0x6D#8, 0x7D#8, 0x79#8, 0x61#8, 0x71#8] ∧
    (∀ i ∈ formsAdc v z w, ∃ m, resolveVal i.operand s = some m ∧ ∃ r res,
      r = s.a.toNat + m.toNat + s.p.c.toNat ∧ res = BitVec.ofNat 8 r ∧
      exec i s = .next { s with
        a := res
        p := { znOf res s.p with
          c := decide (256 ≤ r), v := ((~~~(s.a ^^^ m)) &&& (s.a ^^^ res)).getLsbD 7 } }) ∧
    (∀ m, (s.p.d = true → adcOp .refuse m s = .refused .decimalMode) ∧
      (s.p.d = false → adcOp .refuse m s = adcOp .binary m s))

/-- The source's "standard two's-complement overflow rules" (41_alu.md, before R150) as integer arithmetic. -/
def Obligations.AdcIsSignedAndUnsignedAddition : Prop :=
  ∀ (v z : Byte) (w : Word) (s : State), ∀ i ∈ formsAdc v z w, ∃ m t, resolveVal i.operand s = some m ∧ exec i s = .next t ∧
    t.a.toNat = (s.a.toNat + m.toNat + s.p.c.toNat) % 256 ∧
    (t.p.c = true ↔ 255 < s.a.toNat + m.toNat + s.p.c.toNat) ∧
    (t.p.v = true ↔ s.a.toInt + m.toInt + s.p.c.toNat < -128 ∨ 127 < s.a.toInt + m.toInt + s.p.c.toNat)

/-- 41_alu.md R151. -/
def Obligations.SbcResult : Prop :=
  ∀ (v z : Byte) (w : Word) (s : State),
    (formsSbc v z w).map Instr.opcode = [0xE9#8, 0xE5#8, 0xF5#8, 0xED#8, 0xFD#8, 0xF9#8, 0xE1#8, 0xF1#8] ∧
    (∀ i ∈ formsSbc v z w, ∃ m, resolveVal i.operand s = some m ∧ ∃ r res,
      r = s.a.toNat + (255 - m.toNat) + s.p.c.toNat ∧ res = BitVec.ofNat 8 r ∧
      exec i s = .next { s with
        a := res
        p := { znOf res s.p with
          c := decide (256 ≤ r), v := ((s.a ^^^ m) &&& (s.a ^^^ res)).getLsbD 7 } }) ∧
    (∀ m, (s.p.d = true → sbcOp .refuse m s = .refused .decimalMode) ∧
      (s.p.d = false → sbcOp .refuse m s = sbcOp .binary m s))

/-- 41_alu.md R151's "1 = no borrow: A >= VAL + (1 - C_in), unsigned", and overflow as integer arithmetic. -/
def Obligations.SbcIsSignedAndUnsignedSubtraction : Prop :=
  ∀ (v z : Byte) (w : Word) (s : State), ∀ i ∈ formsSbc v z w, ∃ m t, resolveVal i.operand s = some m ∧ exec i s = .next t ∧
    (t.a.toNat : Int) = ((s.a.toNat : Int) - m.toNat - (1 - s.p.c.toNat)) % 256 ∧
    (t.p.c = true ↔ m.toNat + (1 - s.p.c.toNat) ≤ s.a.toNat) ∧
    (t.p.v = true ↔ s.a.toInt - m.toInt - (1 - (s.p.c.toNat : Int)) < -128 ∨
      127 < s.a.toInt - m.toInt - (1 - (s.p.c.toNat : Int)))

/-- 41_alu.md R152, R153 and R154. -/
def Obligations.LogicResult : Prop :=
  ∀ (v z : Byte) (w : Word) (s : State),
    ((formsAnd v z w).map Instr.opcode = [0x29#8, 0x25#8, 0x35#8, 0x2D#8, 0x3D#8, 0x39#8, 0x21#8, 0x31#8] ∧
      ∀ i ∈ formsAnd v z w, ∃ m, resolveVal i.operand s = some m ∧
        exec i s = .next { s with a := s.a &&& m, p := znOf (s.a &&& m) s.p }) ∧
    ((formsOra v z w).map Instr.opcode = [0x09#8, 0x05#8, 0x15#8, 0x0D#8, 0x1D#8, 0x19#8, 0x01#8, 0x11#8] ∧
      ∀ i ∈ formsOra v z w, ∃ m, resolveVal i.operand s = some m ∧
        exec i s = .next { s with a := s.a ||| m, p := znOf (s.a ||| m) s.p }) ∧
    ((formsEor v z w).map Instr.opcode = [0x49#8, 0x45#8, 0x55#8, 0x4D#8, 0x5D#8, 0x59#8, 0x41#8, 0x51#8] ∧
      ∀ i ∈ formsEor v z w, ∃ m, resolveVal i.operand s = some m ∧
        exec i s = .next { s with a := s.a ^^^ m, p := znOf (s.a ^^^ m) s.p })

/-- 41_alu.md R155 and R160: mode acc writes A, a memory mode writes the byte it reads. -/
def Obligations.AslResult : Prop :=
  ∀ (z : Byte) (w : Word) (s : State),
    (Instr.aslAcc).opcode = 0x0A#8 ∧
    (formsAsl z w).map Instr.opcode = [0x06#8, 0x16#8, 0x0E#8, 0x1E#8] ∧
    (∃ res, res = BitVec.ofNat 8 (s.a.toNat * 2) ∧
      exec .aslAcc s = .next { s with a := res, p := shiftFlags res (s.a.getLsbD 7) s.p }) ∧
    (∀ i ∈ formsAsl z w, ∃ ea m res, resolveEa i.operand s = some ea ∧ m = s.readByte ea ∧ res = BitVec.ofNat 8 (m.toNat * 2) ∧
      exec i s = .next { s.writeByte ea res with p := shiftFlags res (m.getLsbD 7) s.p })

/-- 41_alu.md R156 and R160: mode acc writes A, a memory mode writes the byte it reads. -/
def Obligations.LsrResult : Prop :=
  ∀ (z : Byte) (w : Word) (s : State),
    (Instr.lsrAcc).opcode = 0x4A#8 ∧
    (formsLsr z w).map Instr.opcode = [0x46#8, 0x56#8, 0x4E#8, 0x5E#8] ∧
    (∃ res, res = BitVec.ofNat 8 (s.a.toNat / 2) ∧
      exec .lsrAcc s = .next { s with a := res, p := shiftFlags res (s.a.getLsbD 0) s.p }) ∧
    (∀ i ∈ formsLsr z w, ∃ ea m res, resolveEa i.operand s = some ea ∧ m = s.readByte ea ∧ res = BitVec.ofNat 8 (m.toNat / 2) ∧
      exec i s = .next { s.writeByte ea res with p := shiftFlags res (m.getLsbD 0) s.p })

/-- 41_alu.md R157 and R160: mode acc writes A, a memory mode writes the byte it reads. -/
def Obligations.RolResult : Prop :=
  ∀ (z : Byte) (w : Word) (s : State),
    (Instr.rolAcc).opcode = 0x2A#8 ∧
    (formsRol z w).map Instr.opcode = [0x26#8, 0x36#8, 0x2E#8, 0x3E#8] ∧
    (∃ res, res = BitVec.ofNat 8 (s.a.toNat * 2 + s.p.c.toNat) ∧
      exec .rolAcc s = .next { s with a := res, p := shiftFlags res (s.a.getLsbD 7) s.p }) ∧
    (∀ i ∈ formsRol z w, ∃ ea m res, resolveEa i.operand s = some ea ∧ m = s.readByte ea ∧ res = BitVec.ofNat 8 (m.toNat * 2 + s.p.c.toNat) ∧
      exec i s = .next { s.writeByte ea res with p := shiftFlags res (m.getLsbD 7) s.p })

/-- 41_alu.md R158 and R160: mode acc writes A, a memory mode writes the byte it reads. -/
def Obligations.RorResult : Prop :=
  ∀ (z : Byte) (w : Word) (s : State),
    (Instr.rorAcc).opcode = 0x6A#8 ∧
    (formsRor z w).map Instr.opcode = [0x66#8, 0x76#8, 0x6E#8, 0x7E#8] ∧
    (∃ res, res = BitVec.ofNat 8 (s.a.toNat / 2 + s.p.c.toNat * 128) ∧
      exec .rorAcc s = .next { s with a := res, p := shiftFlags res (s.a.getLsbD 0) s.p }) ∧
    (∀ i ∈ formsRor z w, ∃ ea m res, resolveEa i.operand s = some ea ∧ m = s.readByte ea ∧ res = BitVec.ofNat 8 (m.toNat / 2 + s.p.c.toNat * 128) ∧
      exec i s = .next { s.writeByte ea res with p := shiftFlags res (m.getLsbD 0) s.p })

/-- 41_alu.md R159. -/
def Obligations.BitResult : Prop :=
  ∀ (z : Byte) (w : Word) (s : State),
    (formsBit z w).map Instr.opcode = [0x24#8, 0x2C#8] ∧
    ∀ i ∈ formsBit z w, ∃ m, resolveVal i.operand s = some m ∧
      exec i s = .next { s with
        p := { s.p with z := (s.a &&& m) == 0#8, n := m.getLsbD 7, v := m.getLsbD 6 } }

/-! ### Loads, stores, increments, decrements, compares -/

/-- 42_load_store.md R180, R181 and R182. -/
def Obligations.LoadResult : Prop :=
  ∀ (v z : Byte) (w : Word) (s : State),
    ((formsLda v z w).map Instr.opcode = [0xA9#8, 0xA5#8, 0xB5#8, 0xAD#8, 0xBD#8, 0xB9#8, 0xA1#8, 0xB1#8] ∧
      ∀ i ∈ formsLda v z w, ∃ m, resolveVal i.operand s = some m ∧
        exec i s = .next { s with a := m, p := znOf m s.p }) ∧
    ((formsLdx v z w).map Instr.opcode = [0xA2#8, 0xA6#8, 0xB6#8, 0xAE#8, 0xBE#8] ∧
      ∀ i ∈ formsLdx v z w, ∃ m, resolveVal i.operand s = some m ∧
        exec i s = .next { s with x := m, p := znOf m s.p }) ∧
    ((formsLdy v z w).map Instr.opcode = [0xA0#8, 0xA4#8, 0xB4#8, 0xAC#8, 0xBC#8] ∧
      ∀ i ∈ formsLdy v z w, ∃ m, resolveVal i.operand s = some m ∧
        exec i s = .next { s with y := m, p := znOf m s.p })

/-- 42_load_store.md R183, R184 and R185. -/
def Obligations.StoreResult : Prop :=
  ∀ (z : Byte) (w : Word) (s : State),
    ((formsSta z w).map Instr.opcode = [0x85#8, 0x95#8, 0x8D#8, 0x9D#8, 0x99#8, 0x81#8, 0x91#8] ∧
      ∀ i ∈ formsSta z w, ∃ ea, resolveEa i.operand s = some ea ∧ exec i s = .next (s.writeByte ea s.a)) ∧
    ((formsStx z w).map Instr.opcode = [0x86#8, 0x96#8, 0x8E#8] ∧
      ∀ i ∈ formsStx z w, ∃ ea, resolveEa i.operand s = some ea ∧ exec i s = .next (s.writeByte ea s.x)) ∧
    ((formsSty z w).map Instr.opcode = [0x84#8, 0x94#8, 0x8C#8] ∧
      ∀ i ∈ formsSty z w, ∃ ea, resolveEa i.operand s = some ea ∧ exec i s = .next (s.writeByte ea s.y))

/-- 43_incdec.md R200 and R201; minus 1 is plus 255 modulo 256. -/
def Obligations.IncDecMemoryResult : Prop :=
  ∀ (z : Byte) (w : Word) (s : State),
    ((formsInc z w).map Instr.opcode = [0xE6#8, 0xF6#8, 0xEE#8, 0xFE#8] ∧
      ∀ i ∈ formsInc z w, ∃ ea res, resolveEa i.operand s = some ea ∧
        res = BitVec.ofNat 8 ((s.readByte ea).toNat + 1) ∧
        exec i s = .next { s.writeByte ea res with p := znOf res s.p }) ∧
    ((formsDec z w).map Instr.opcode = [0xC6#8, 0xD6#8, 0xCE#8, 0xDE#8] ∧
      ∀ i ∈ formsDec z w, ∃ ea res, resolveEa i.operand s = some ea ∧
        res = BitVec.ofNat 8 ((s.readByte ea).toNat + 255) ∧
        exec i s = .next { s.writeByte ea res with p := znOf res s.p })

/-- 43_incdec.md R202 to R205; minus 1 is plus 255 modulo 256. -/
def Obligations.IncDecRegisterResult : Prop :=
  ∀ s : State,
    ((Instr.inx).opcode = 0xE8#8 ∧ ∃ res, res = BitVec.ofNat 8 (s.x.toNat + 1) ∧
      exec .inx s = .next { s with x := res, p := znOf res s.p }) ∧
    ((Instr.iny).opcode = 0xC8#8 ∧ ∃ res, res = BitVec.ofNat 8 (s.y.toNat + 1) ∧
      exec .iny s = .next { s with y := res, p := znOf res s.p }) ∧
    ((Instr.dex).opcode = 0xCA#8 ∧ ∃ res, res = BitVec.ofNat 8 (s.x.toNat + 255) ∧
      exec .dex s = .next { s with x := res, p := znOf res s.p }) ∧
    ((Instr.dey).opcode = 0x88#8 ∧ ∃ res, res = BitVec.ofNat 8 (s.y.toNat + 255) ∧
      exec .dey s = .next { s with y := res, p := znOf res s.p })

/-- 44_compare.md R220 to R223. -/
def Obligations.CompareResult : Prop :=
  ∀ (v z : Byte) (w : Word) (s : State),
    ((formsCmp v z w).map Instr.opcode = [0xC9#8, 0xC5#8, 0xD5#8, 0xCD#8, 0xDD#8, 0xD9#8, 0xC1#8, 0xD1#8] ∧
      ∀ i ∈ formsCmp v z w, ∃ m, resolveVal i.operand s = some m ∧
        exec i s = .next { s with p := compareFlags s.a m s.p }) ∧
    ((formsCpx v z w).map Instr.opcode = [0xE0#8, 0xE4#8, 0xEC#8] ∧
      ∀ i ∈ formsCpx v z w, ∃ m, resolveVal i.operand s = some m ∧
        exec i s = .next { s with p := compareFlags s.x m s.p }) ∧
    ((formsCpy v z w).map Instr.opcode = [0xC0#8, 0xC4#8, 0xCC#8] ∧
      ∀ i ∈ formsCpy v z w, ∃ m, resolveVal i.operand s = some m ∧
        exec i s = .next { s with p := compareFlags s.y m s.p })

/-! ### Branches and control transfer -/

/-- 45_branch.md R240 to R248. -/
def Obligations.BranchResult : Prop :=
  ∀ (off : Byte) (s : State),
    [Instr.bpl off, .bmi off, .bvc off, .bvs off, .bcc off, .bcs off, .bne off, .beq off].map Instr.opcode =
      [0x10#8, 0x30#8, 0x50#8, 0x70#8, 0x90#8, 0xB0#8, 0xD0#8, 0xF0#8] ∧
    exec (.bpl off) s = .next { s with pc := if s.p.n = false then s.pc + off.signExtend 16 else s.pc } ∧
    exec (.bmi off) s = .next { s with pc := if s.p.n = true then s.pc + off.signExtend 16 else s.pc } ∧
    exec (.bvc off) s = .next { s with pc := if s.p.v = false then s.pc + off.signExtend 16 else s.pc } ∧
    exec (.bvs off) s = .next { s with pc := if s.p.v = true then s.pc + off.signExtend 16 else s.pc } ∧
    exec (.bcc off) s = .next { s with pc := if s.p.c = false then s.pc + off.signExtend 16 else s.pc } ∧
    exec (.bcs off) s = .next { s with pc := if s.p.c = true then s.pc + off.signExtend 16 else s.pc } ∧
    exec (.bne off) s = .next { s with pc := if s.p.z = false then s.pc + off.signExtend 16 else s.pc } ∧
    exec (.beq off) s = .next { s with pc := if s.p.z = true then s.pc + off.signExtend 16 else s.pc }

/-- 46_control.md R260 and R261, with the default of 40_addressing.md R132; the setting false is in ResolverModes. -/
def Obligations.JumpResult : Prop :=
  ∀ (w : Word) (s : State),
    (Instr.jmpAbs w).opcode = 0x4C#8 ∧ (Instr.jmpInd w).opcode = 0x6C#8 ∧
    exec (.jmpAbs w) s = .next { s with pc := w } ∧
    exec (.jmpInd w) s = .next { s with
      pc := mkWord (s.readByte ((w &&& 0xFF00#16) ||| ((w + 1#16) &&& 0x00FF#16))) (s.readByte w) }

/-- 46_control.md R262. -/
def Obligations.JsrResult : Prop :=
  ∀ (w : Word) (s : State),
    (Instr.jsr w).opcode = 0x20#8 ∧
    exec (.jsr w) s = .next
      { (s.writeByte (stackByte s.s) (hiByte (s.pc - 1#16))).writeByte (stackByte (s.s - 1#8)) (loByte (s.pc - 1#16)) with
        s := s.s - 2#8, pc := w }

/-- 46_control.md R263. -/
def Obligations.RtsResult : Prop :=
  ∀ s : State,
    (Instr.rts).opcode = 0x60#8 ∧
    exec .rts s = .next { s with
      s := s.s + 2#8
      pc := mkWord (s.readByte (stackByte (s.s + 2#8))) (s.readByte (stackByte (s.s + 1#8))) + 1#16 }

/-- 46_control.md R264. The return address BRK + 2 and the setting of I are what the spec itself adds (92_eei_decisions.md D10, D11), and so
is the vector address, D4 (a parameter, log entry 5). -/
def Obligations.BrkResult : Prop :=
  ∀ s : State,
    (Instr.brk).opcode = 0x00#8 ∧
    exec .brk s = .next (entryState (s.pc + 1#16) true 0xFFFE#16 0xFFFF#16 s)

/-- 46_control.md R265. -/
def Obligations.RtiResult : Prop :=
  ∀ s : State,
    (Instr.rti).opcode = 0x40#8 ∧
    exec .rti s = .next { s with
      s := s.s + 3#8
      p := pulledFlags (s.readByte (stackByte (s.s + 1#8)))
      pc := mkWord (s.readByte (stackByte (s.s + 3#8))) (s.readByte (stackByte (s.s + 2#8))) }

/-! ### Stack, transfers, flags, NOP -/

/-- 47_stack.md R280, R283, R284 and R286. -/
def Obligations.PushResult : Prop :=
  ∀ s : State,
    (Instr.pha).opcode = 0x48#8 ∧ (Instr.php).opcode = 0x08#8 ∧
    exec .pha s = .next { s.writeByte (stackByte s.s) s.a with s := s.s - 1#8 } ∧
    exec .php s = .next { s.writeByte (stackByte s.s) (BitVec.ofNat 8 (statusNat s.p true)) with s := s.s - 1#8 }

/-- 47_stack.md R281, R285 and R287. -/
def Obligations.PullResult : Prop :=
  ∀ s : State, ∃ v, v = s.readByte (stackByte (s.s + 1#8)) ∧
    (Instr.pla).opcode = 0x68#8 ∧ (Instr.plp).opcode = 0x28#8 ∧
    exec .pla s = .next { s with a := v, s := s.s + 1#8, p := znOf v s.p } ∧
    exec .plp s = .next { s with s := s.s + 1#8, p := pulledFlags v }

/-- 48_transfer_flag.md R300 to R305. -/
def Obligations.TransferResult : Prop :=
  ∀ s : State,
    [Instr.tax, .txa, .tay, .tya, .tsx, .txs].map Instr.opcode = [0xAA#8, 0x8A#8, 0xA8#8, 0x98#8, 0xBA#8, 0x9A#8] ∧
    exec .tax s = .next { s with x := s.a, p := znOf s.a s.p } ∧
    exec .txa s = .next { s with a := s.x, p := znOf s.x s.p } ∧
    exec .tay s = .next { s with y := s.a, p := znOf s.a s.p } ∧
    exec .tya s = .next { s with a := s.y, p := znOf s.y s.p } ∧
    exec .tsx s = .next { s with x := s.s, p := znOf s.s s.p } ∧
    exec .txs s = .next { s with s := s.x }

/-- 48_transfer_flag.md R306 to R312. -/
def Obligations.FlagOpResult : Prop :=
  ∀ s : State,
    [Instr.clc, .sec, .cli, .sei, .cld, .sed, .clv].map Instr.opcode =
      [0x18#8, 0x38#8, 0x58#8, 0x78#8, 0xD8#8, 0xF8#8, 0xB8#8] ∧
    exec .clc s = .next { s with p := { s.p with c := false } } ∧
    exec .sec s = .next { s with p := { s.p with c := true } } ∧
    exec .cli s = .next { s with p := { s.p with i := false } } ∧
    exec .sei s = .next { s with p := { s.p with i := true } } ∧
    exec .cld s = .next { s with p := { s.p with d := false } } ∧
    exec .sed s = .next { s with p := { s.p with d := true } } ∧
    exec .clv s = .next { s with p := { s.p with v := false } }

/-- 48_transfer_flag.md R313. -/
def Obligations.NopResult : Prop :=
  ∀ s : State,
    (Instr.nop).opcode = 0xEA#8 ∧ exec .nop s = .next s ∧
    (s.runState = .running → s.readByte s.pc = 0xEA#8 → step s = .next { s with pc := s.pc + 1#16 })

/-! ### Frames: what instructions leave unchanged -/

/-- The "written by" column of 10_state.md R32, for every instruction; the entries and reset are host calls. -/
def Obligations.FlagFrame : Prop :=
  ∀ (i : Instr) (s t : State), exec i s = .next t →
    (¬ opIn i (.plp :: .rti :: nzWriters) → t.p.n = s.p.n ∧ t.p.z = s.p.z) ∧
    (¬ opIn i [.adc, .sbc, .bit, .clv, .plp, .rti] → t.p.v = s.p.v) ∧
    (¬ opIn i [.plp, .rti] → t.p.b = s.p.b) ∧
    (¬ opIn i [.cld, .sed, .plp, .rti] → t.p.d = s.p.d) ∧
    (¬ opIn i [.cli, .sei, .plp, .rti, .brk] → t.p.i = s.p.i) ∧
    (¬ opIn i [.adc, .sbc, .asl, .lsr, .rol, .ror, .cmp, .cpx, .cpy, .clc, .sec, .plp, .rti] → t.p.c = s.p.c)

/-- The "written by" lists of 10_state.md R21 to R24, and R30. -/
def Obligations.RegisterFrame : Prop :=
  ∀ (i : Instr) (s t : State), exec i s = .next t →
    (¬ opIn i [.adc, .sbc, .and, .ora, .eor, .lda, .pla, .txa, .tya] →
      ¬ (opIn i [.asl, .lsr, .rol, .ror] ∧ i.operand = .acc) → t.a = s.a) ∧
    (¬ opIn i [.ldx, .inx, .dex, .tax, .tsx] → t.x = s.x) ∧
    (¬ opIn i [.ldy, .iny, .dey, .tay] → t.y = s.y) ∧
    (¬ opIn i [.pha, .pla, .php, .plp, .jsr, .rts, .brk, .rti, .txs] → t.s = s.s) ∧
    (¬ opIn i [.bpl, .bmi, .bvc, .bvs, .bcc, .bcs, .bne, .beq, .jmp, .jsr, .rts, .brk, .rti] → t.pc = s.pc) ∧
    (i.operation.isSome = true → t.runState = s.runState ∧ t.haltOpcode = s.haltOpcode)

/-- What each rule of 41_alu.md to 48_transfer_flag.md writes; "No operation other than reads/writes described above touches memory"
(49_driver.md R336). -/
def Obligations.MemoryFrame : Prop :=
  ∀ (i : Instr) (s t : State), exec i s = .next t →
    (∀ k, k ∉ storedAddrs i s → t.readByte k = s.readByte k) ∧ (storedAddrs i s = [] → t.mem = s.mem)

/-- The accesses of 49_driver.md R336 with the value reads of 40_addressing.md R133. The order of the list is the spec's own decision
(92_eei_decisions.md D5); that the trace is no state is log entry 9. -/
def Obligations.StepMemoryIsItsBusTrace : Prop :=
  (∀ s t : State, step s = .next t → t.mem = applyAccesses (stepAccesses s) s.mem) ∧
  (∀ (s s' t : State) (i : Instr) (o : Operation) (rest : List Byte), s.mem.wf = true → s.runState = .running →
    decode [s.readByte s.pc, s.readByte (s.pc + 1#16), s.readByte (s.pc + 2#16)] = .ok (i, rest) →
    i.operation = some o → s' = { s with pc := s.pc + BitVec.ofNat 16 i.length } → step s = .next t →
    stepAccesses s =
      .read s.pc :: ([s.pc + 1#16, s.pc + 2#16].take (i.length - 1)).map BusAccess.read ++
        (pointerBytes i.operand s).map BusAccess.read ++
        (if o ∈ consuming then (resolveEa i.operand s').toList.map BusAccess.read else []) ++
        (if o ∈ storing then (resolveEa i.operand s').toList.map (fun ea => BusAccess.write ea (t.readByte ea)) else []) ++
        stackTrace o s') ∧
  (∀ (a : HostAction) (s : State), (hostAction a s).mem = applyAccesses (actionAccesses a s) s.mem)

/-- 47_stack.md R282. -/
def Obligations.StackStaysInItsPage : Prop :=
  (∀ (v : Byte) (s : State), push v s = { s.writeByte (stackByte s.s) v with s := s.s - 1#8 }) ∧
  (∀ s : State, pull s = (s.readByte (stackByte (s.s + 1#8)), { s with s := s.s + 1#8 })) ∧
  (∀ sp : Byte, 0x0100 ≤ (stackByte sp).toNat ∧ (stackByte sp).toNat ≤ 0x01FF ∧ stackAddr sp = stackByte sp) ∧
  (∀ (v : Byte) (s : State), s.s = 0x00#8 → push v s = { s.writeByte 0x0100#16 v with s := 0xFF#8 }) ∧
  (∀ s : State, s.s = 0xFF#8 → pull s = (s.readByte 0x0100#16, { s with s := 0x00#8 })) ∧
  (∀ (i : Instr) (s t : State), opIn i [.pha, .php, .jsr, .brk] → exec i s = .next t →
    ∀ k : Word, k.toNat < 0x0100 ∨ 0x01FF < k.toNat → t.readByte k = s.readByte k)

/-! ### Invariants -/

/-- Memory keeps its canonical form, and Halted means frozen at the recorded illegal byte (60_exceptions.md R360, R369). -/
def Obligations.StepKeepsInvariant : Prop :=
  ∀ s t : State, s.Inv → step s = .next t → t.Inv

/-- The invariant holds at State.reset. It does not rest on the register values that log entry 2 chooses. -/
def Obligations.ResetSatisfiesInvariant : Prop :=
  State.reset.Inv ∧ State.reset.Running

/-- 49_driver.md R338: the host's calls; R339 for runs, and 60_exceptions.md R384 for several drivers (log entry 10). -/
def Obligations.HostCallsKeepMemoryForm : Prop :=
  (∀ (c : HostCall) (s t : State) (r : Option Byte), s.mem.wf = true → hostCall c s = .next (t, r) →
    t.mem.wf = true) ∧
  (∀ (l : List HostCall) (s t : State), s.mem.wf = true → runCalls l s = .next t → t.mem.wf = true) ∧
  (∀ (l : Launch) (n : Nat) (p : Progress), l.memInit.wf = true → l.run n = .next p → p.state.mem.wf = true) ∧
  (∀ (l : List (Nat × HostCall)) (σ τ : System), σ.mem.wf = true → runSystem l σ = .next τ → τ.mem.wf = true)

/-! ### What programs cannot observe -/

/-- 10_state.md R27: a program cannot observe the stored B. -/
def Obligations.StoredBreakIsUnobservable : Prop :=
  (∀ (s t : State) (b : Bool), step s = .next t → ∃ b', step (s.setFlag .b b) = .next (t.setFlag .b b')) ∧
  (∀ (s : State) (b : Bool) (r : Fault), step s = .fault r → step (s.setFlag .b b) = .fault r)

/-- 10_state.md R30 and 70_reset_and_hazards.md R401: not read while Running. So the free value of log entry 3 can be seen nowhere else. -/
def Obligations.HaltOpcodeIsUnreadWhileRunning : Prop :=
  ∀ (s t : State) (h : Byte), s.runState = .running → step s = .next t →
    ∃ h', step { s with haltOpcode := h } = .next { t with haltOpcode := h' }

/-- 41_alu.md R161 under the default DECIMAL_POLICY = binary (log entries 5 and 14). -/
def Obligations.DecimalFlagChangesNoArithmetic : Prop :=
  ∀ (v z : Byte) (w : Word) (s t : State) (d : Bool), ∀ i ∈ formsAdc v z w ++ formsSbc v z w,
    exec i s = .next t → exec i (s.setFlag .d d) = .next (t.setFlag .d d)

/-! ### Reset, interrupts and the host -/

/-- 70_reset_and_hazards.md R401. The S - 3 without writes and the setting of I are the spec's own reading (92_eei_decisions.md D17), the
vector address is its D4 (a parameter, log entry 5), and that halt_opcode takes any value is a free argument, log entry 3. -/
def Obligations.ResetCallResult : Prop :=
  ∀ (u : Byte) (s : State),
    hostCall (.act (.reset u)) s = .next ({ s with
      s := s.s - 3#8
      p := { s.p with i := true }
      pc := mkWord (s.readByte 0xFFFD#16) (s.readByte 0xFFFC#16)
      runState := .running
      haltOpcode := u }, none) ∧
    actionAccesses (.reset u) s = [.read 0xFFFC#16, .read 0xFFFD#16]

/-- 70_reset_and_hazards.md R400 with the model's own choice of the power-on draw (log entries 1, 2 and 3); the end of a run by 49_driver.md
R339, where the model counts the start as a state between steps (log entry 16). -/
def Obligations.StateResetIsALaunch : Prop :=
  (State.reset = launch zeroPowerOn [] 0#8 ∧
    ∀ (regs : PowerOn) (m : Memory) (u : Byte),
      (launch regs m u).runState = .running ∧ (launch regs m u).s = regs.s - 3#8 ∧ (launch regs m u).p.i = true ∧
      (launch regs m u).pc = mkWord (memRead m 0xFFFD) (memRead m 0xFFFC) ∧ (launch regs m u).mem = m) ∧
  (∀ (l : Launch) (n : Nat) (e : RunEnd) (t : State), l.run n = .next (.ended e t) →
    isEnd l.endPc e t ∧ ∀ m, n ≤ m → l.run m = .next (.ended e t)) ∧
  (∀ (l : Launch) (n : Nat) (t : State), l.run n = .next (.going t) → t.runState = .running ∧ t.pc ≠ l.endPc) ∧
  (∀ (l : Launch) (n : Nat) (e : RunEnd) (t : State), l.schedule = [] →
    (l.run n = .next (.ended e t) ↔
      ∃ m, m ≤ n ∧ afterSteps m l.start = some t ∧ isEnd l.endPc e t ∧
        ∀ j u d, j < m → afterSteps j l.start = some u → ¬ isEnd l.endPc d u))

/-- 60_exceptions.md R365 and R366. That a masked or Halted call is dropped is the spec's own choice (92_eei_decisions.md D12, D13); what
the entry pushes and that it sets I are its D11 and D22, and the vector address is its D4 (a parameter, log entry 5). -/
def Obligations.RaiseIrqResult : Prop :=
  ∀ s : State,
    (s.runState = .halted → hostCall (.act .raiseIrq) s = .next (s, none) ∧ actionAccesses .raiseIrq s = []) ∧
    (s.p.i = true → hostCall (.act .raiseIrq) s = .next (s, none) ∧ actionAccesses .raiseIrq s = []) ∧
    (s.runState = .running → s.p.i = false →
      hostCall (.act .raiseIrq) s = .next (entryState s.pc false 0xFFFE#16 0xFFFF#16 s, none) ∧
      actionAccesses .raiseIrq s = entryTrace s.pc false 0xFFFE#16 0xFFFF#16 s)

/-- 60_exceptions.md R367 and R366. That a Halted call is dropped and that nothing is latched are the spec's own choices
(92_eei_decisions.md D13, D12); what the entry pushes and that it sets I are its D11 and D22, and the vector address is its D4 (a
parameter, log entry 5). -/
def Obligations.RaiseNmiResult : Prop :=
  ∀ s : State,
    (s.runState = .halted → hostCall (.act .raiseNmi) s = .next (s, none) ∧ actionAccesses .raiseNmi s = []) ∧
    (s.runState = .running →
      hostCall (.act .raiseNmi) s = .next (entryState s.pc false 0xFFFA#16 0xFFFB#16 s, none) ∧
      actionAccesses .raiseNmi s = entryTrace s.pc false 0xFFFA#16 0xFFFB#16 s ∧
      ∀ t, t = entryState s.pc false 0xFFFA#16 0xFFFB#16 s →
        runCalls [.act .raiseNmi, .act .raiseNmi] s = .next (entryState t.pc false 0xFFFA#16 0xFFFB#16 t))

/-- 60_exceptions.md R362, and the host's writes and reads of 49_driver.md R338, 10_state.md R26 to R29 and 20_memory.md R74. That a PC
write ends the halt at once is the spec's own choice (92_eei_decisions.md D14), and what bits 4 and 5 of P hold is its D9 (log entry 15).
halt_opcode while Running is any value by 10_state.md R30 and 93_implementation_defined.md U7: a free argument, log entry 3. -/
def Obligations.OnlyResetAndPcWriteLeaveHalted : Prop :=
  (∀ (c : HostCall) (s t : State) (r : Option Byte), s.runState = .halted → hostCall c s = .next (t, r) →
    (t.runState = .running ↔ (∃ u, c = .act (.reset u)) ∨ ∃ v u, c = .act (.setPc v u))) ∧
  (∀ (s : State) (v : Word) (u : Byte),
    hostCall (.act (.setPc v u)) s = .next ({ s with pc := v, runState := .running, haltOpcode := u }, none)) ∧
  (∀ (s : State) (v : Byte),
    hostCall (.act (.setA v)) s = .next ({ s with a := v }, none) ∧
    hostCall (.act (.setX v)) s = .next ({ s with x := v }, none) ∧
    hostCall (.act (.setY v)) s = .next ({ s with y := v }, none) ∧
    hostCall (.act (.setS v)) s = .next ({ s with s := v }, none) ∧
    hostCall (.act (.setP v)) s = .next ({ s with p := pulledFlags v }, none)) ∧
  (∀ (s : State) (k v : Word) (b : Byte),
    hostCall (.act (.writeByte k b)) s = .next (s.writeByte k b, none) ∧
    hostCall (.act (.writeWord k v)) s = .next ((s.writeByte k (loByte v)).writeByte (k + 1#16) (hiByte v), none)) ∧
  (∀ (s : State) (f : Flag) (new : Bool), ∃ t, hostCall (.act (.setFlag f new)) s = .next (t, none) ∧
    t = { s with p := t.p } ∧ t.getFlag f = new ∧ (∀ g, g ≠ f → t.getFlag g = s.getFlag g) ∧
    s.replaceFlag f new = (s.getFlag f, t)) ∧
  (∀ (s : State) (v : Byte),
    s.readP = BitVec.ofNat 8 (statusNat s.p s.p.b) ∧ ({ s with p := pulledFlags v } : State).readP = v ||| 0x20#8)

/-! ### Round trips -/

/-- The source's worked example for 46_control.md R262 and R263, for every state. -/
def Obligations.CallThenReturn : Prop :=
  ∀ (w : Word) (s : State), s.mem.wf = true →
    ∃ t, exec (.jsr w) s = .next t ∧ exec .rts t = .next { s with mem := t.mem }

/-- 60_exceptions.md R370, with the pushed bit 4 of 47_stack.md R283. -/
def Obligations.InterruptThenReturn : Prop :=
  ∀ s : State, s.mem.wf = true →
    (s.runState = .running → s.p.i = false →
      exec .rti (raiseIrq s) = .next { s with mem := (raiseIrq s).mem, p := { s.p with b := false } }) ∧
    (s.runState = .running →
      exec .rti (raiseNmi s) = .next { s with mem := (raiseNmi s).mem, p := { s.p with b := false } }) ∧
    (∃ t, exec .brk s = .next t ∧
      exec .rti t = .next { s with mem := t.mem, pc := s.pc + 1#16, p := { s.p with b := true } })

/-- 47_stack.md R285 and R287, for every state. -/
def Obligations.PushThenPull : Prop :=
  ∀ s : State, s.mem.wf = true →
    (∀ v, ∃ t, exec .pha s = .next t ∧ exec .pla { t with a := v } = .next { s with mem := t.mem, p := znOf s.a s.p }) ∧
    (∀ f, ∃ t, exec .php s = .next t ∧
      exec .plp { t with p := f } = .next { s with mem := t.mem, p := { s.p with b := true } })

/-- 60_exceptions.md R384. Out of scope by 00_scope.md R4; the model states it all the same (log entry 10). -/
def Obligations.CoreStepTouchesOneCore : Prop :=
  (∀ (k : Nat) (c : HostCall) (σ : System), ∃ (τ : System) (r : Option Byte), systemCall k c σ = .next (τ, r) ∧
    (∀ j, j ≠ k → τ.cores[j]? = σ.cores[j]?) ∧ τ.cores.length = σ.cores.length ∧
    (∀ d, σ.cores[k]? = some d → ∃ t, hostCall c (joinState d σ.mem) = .next (t, r) ∧
      τ.cores[k]? = some (coreOf t) ∧ τ.mem = t.mem) ∧
    (∀ d, σ.cores[k]? = some d → d.runState = .halted → c = .step → τ = σ ∧ r = some d.haltOpcode)) ∧
  (∀ (l : List (Nat × HostCall)) (σ : System), ∃ τ, runSystem l σ = .next τ) ∧
  (∀ (draws : List (PowerOn × Byte)) (m : Memory), (systemLaunch draws m).mem = m ∧
    ∀ (k : Nat) (regs : PowerOn) (u : Byte), draws[k]? = some (regs, u) →
      (systemLaunch draws m).cores[k]? = some (coreOf (launch regs m u)))
end

