-- ==== Sys2Proof/Laws/State.lean ====
section
/-! SUPPORT. What each named state update does to each field: one lemma per field, so that no later proof unfolds a record
update. -/

namespace Sys2Proof.Machine

@[simp] theorem State.setA_a (s : State) (v : Byte) : (s.setA v).a = v := rfl
@[simp] theorem State.setA_x (s : State) (v : Byte) : (s.setA v).x = s.x := rfl
@[simp] theorem State.setA_y (s : State) (v : Byte) : (s.setA v).y = s.y := rfl
@[simp] theorem State.setA_s (s : State) (v : Byte) : (s.setA v).s = s.s := rfl
@[simp] theorem State.setA_pc (s : State) (v : Byte) : (s.setA v).pc = s.pc := rfl
@[simp] theorem State.setA_p (s : State) (v : Byte) : (s.setA v).p = s.p := rfl
@[simp] theorem State.setA_runState (s : State) (v : Byte) : (s.setA v).runState = s.runState := rfl
@[simp] theorem State.setA_haltOpcode (s : State) (v : Byte) : (s.setA v).haltOpcode = s.haltOpcode := rfl
@[simp] theorem State.setA_mem (s : State) (v : Byte) : (s.setA v).mem = s.mem := rfl

@[simp] theorem State.setX_a (s : State) (v : Byte) : (s.setX v).a = s.a := rfl
@[simp] theorem State.setX_x (s : State) (v : Byte) : (s.setX v).x = v := rfl
@[simp] theorem State.setX_y (s : State) (v : Byte) : (s.setX v).y = s.y := rfl
@[simp] theorem State.setX_s (s : State) (v : Byte) : (s.setX v).s = s.s := rfl
@[simp] theorem State.setX_pc (s : State) (v : Byte) : (s.setX v).pc = s.pc := rfl
@[simp] theorem State.setX_p (s : State) (v : Byte) : (s.setX v).p = s.p := rfl
@[simp] theorem State.setX_runState (s : State) (v : Byte) : (s.setX v).runState = s.runState := rfl
@[simp] theorem State.setX_haltOpcode (s : State) (v : Byte) : (s.setX v).haltOpcode = s.haltOpcode := rfl
@[simp] theorem State.setX_mem (s : State) (v : Byte) : (s.setX v).mem = s.mem := rfl

@[simp] theorem State.setY_a (s : State) (v : Byte) : (s.setY v).a = s.a := rfl
@[simp] theorem State.setY_x (s : State) (v : Byte) : (s.setY v).x = s.x := rfl
@[simp] theorem State.setY_y (s : State) (v : Byte) : (s.setY v).y = v := rfl
@[simp] theorem State.setY_s (s : State) (v : Byte) : (s.setY v).s = s.s := rfl
@[simp] theorem State.setY_pc (s : State) (v : Byte) : (s.setY v).pc = s.pc := rfl
@[simp] theorem State.setY_p (s : State) (v : Byte) : (s.setY v).p = s.p := rfl
@[simp] theorem State.setY_runState (s : State) (v : Byte) : (s.setY v).runState = s.runState := rfl
@[simp] theorem State.setY_haltOpcode (s : State) (v : Byte) : (s.setY v).haltOpcode = s.haltOpcode := rfl
@[simp] theorem State.setY_mem (s : State) (v : Byte) : (s.setY v).mem = s.mem := rfl

@[simp] theorem State.setS_a (s : State) (v : Byte) : (s.setS v).a = s.a := rfl
@[simp] theorem State.setS_x (s : State) (v : Byte) : (s.setS v).x = s.x := rfl
@[simp] theorem State.setS_y (s : State) (v : Byte) : (s.setS v).y = s.y := rfl
@[simp] theorem State.setS_s (s : State) (v : Byte) : (s.setS v).s = v := rfl
@[simp] theorem State.setS_pc (s : State) (v : Byte) : (s.setS v).pc = s.pc := rfl
@[simp] theorem State.setS_p (s : State) (v : Byte) : (s.setS v).p = s.p := rfl
@[simp] theorem State.setS_runState (s : State) (v : Byte) : (s.setS v).runState = s.runState := rfl
@[simp] theorem State.setS_haltOpcode (s : State) (v : Byte) : (s.setS v).haltOpcode = s.haltOpcode := rfl
@[simp] theorem State.setS_mem (s : State) (v : Byte) : (s.setS v).mem = s.mem := rfl

@[simp] theorem State.setPc_a (s : State) (v : Word) : (s.setPc v).a = s.a := rfl
@[simp] theorem State.setPc_x (s : State) (v : Word) : (s.setPc v).x = s.x := rfl
@[simp] theorem State.setPc_y (s : State) (v : Word) : (s.setPc v).y = s.y := rfl
@[simp] theorem State.setPc_s (s : State) (v : Word) : (s.setPc v).s = s.s := rfl
@[simp] theorem State.setPc_pc (s : State) (v : Word) : (s.setPc v).pc = v := rfl
@[simp] theorem State.setPc_p (s : State) (v : Word) : (s.setPc v).p = s.p := rfl
@[simp] theorem State.setPc_runState (s : State) (v : Word) : (s.setPc v).runState = s.runState := rfl
@[simp] theorem State.setPc_haltOpcode (s : State) (v : Word) : (s.setPc v).haltOpcode = s.haltOpcode := rfl
@[simp] theorem State.setPc_mem (s : State) (v : Word) : (s.setPc v).mem = s.mem := rfl

@[simp] theorem State.setP_a (s : State) (f : Flags) : (s.setP f).a = s.a := rfl
@[simp] theorem State.setP_x (s : State) (f : Flags) : (s.setP f).x = s.x := rfl
@[simp] theorem State.setP_y (s : State) (f : Flags) : (s.setP f).y = s.y := rfl
@[simp] theorem State.setP_s (s : State) (f : Flags) : (s.setP f).s = s.s := rfl
@[simp] theorem State.setP_pc (s : State) (f : Flags) : (s.setP f).pc = s.pc := rfl
@[simp] theorem State.setP_p (s : State) (f : Flags) : (s.setP f).p = f := rfl
@[simp] theorem State.setP_runState (s : State) (f : Flags) : (s.setP f).runState = s.runState := rfl
@[simp] theorem State.setP_haltOpcode (s : State) (f : Flags) : (s.setP f).haltOpcode = s.haltOpcode := rfl
@[simp] theorem State.setP_mem (s : State) (f : Flags) : (s.setP f).mem = s.mem := rfl

@[simp] theorem State.writeByte_a (s : State) (k : Word) (v : Byte) : (s.writeByte k v).a = s.a := rfl
@[simp] theorem State.writeByte_x (s : State) (k : Word) (v : Byte) : (s.writeByte k v).x = s.x := rfl
@[simp] theorem State.writeByte_y (s : State) (k : Word) (v : Byte) : (s.writeByte k v).y = s.y := rfl
@[simp] theorem State.writeByte_s (s : State) (k : Word) (v : Byte) : (s.writeByte k v).s = s.s := rfl
@[simp] theorem State.writeByte_pc (s : State) (k : Word) (v : Byte) : (s.writeByte k v).pc = s.pc := rfl
@[simp] theorem State.writeByte_p (s : State) (k : Word) (v : Byte) : (s.writeByte k v).p = s.p := rfl
@[simp] theorem State.writeByte_runState (s : State) (k : Word) (v : Byte) : (s.writeByte k v).runState = s.runState := rfl
@[simp] theorem State.writeByte_haltOpcode (s : State) (k : Word) (v : Byte) : (s.writeByte k v).haltOpcode = s.haltOpcode := rfl
@[simp] theorem State.writeByte_mem (s : State) (k : Word) (v : Byte) : (s.writeByte k v).mem = memWrite s.mem k.toNat v := rfl

@[simp] theorem State.writeWord_a (s : State) (k w : Word) : (s.writeWord k w).a = s.a := rfl
@[simp] theorem State.writeWord_x (s : State) (k w : Word) : (s.writeWord k w).x = s.x := rfl
@[simp] theorem State.writeWord_y (s : State) (k w : Word) : (s.writeWord k w).y = s.y := rfl
@[simp] theorem State.writeWord_s (s : State) (k w : Word) : (s.writeWord k w).s = s.s := rfl
@[simp] theorem State.writeWord_pc (s : State) (k w : Word) : (s.writeWord k w).pc = s.pc := rfl
@[simp] theorem State.writeWord_p (s : State) (k w : Word) : (s.writeWord k w).p = s.p := rfl
@[simp] theorem State.writeWord_runState (s : State) (k w : Word) : (s.writeWord k w).runState = s.runState := rfl
@[simp] theorem State.writeWord_haltOpcode (s : State) (k w : Word) : (s.writeWord k w).haltOpcode = s.haltOpcode := rfl
@[simp] theorem State.writeWord_mem (s : State) (k w : Word) : (s.writeWord k w).mem = memWrite (memWrite s.mem k.toNat (loByte w)) (k + 1#16).toNat (hiByte w) := rfl

@[simp] theorem setZN_a (v : Byte) (s : State) : (setZN v s).a = s.a := rfl
@[simp] theorem setZN_x (v : Byte) (s : State) : (setZN v s).x = s.x := rfl
@[simp] theorem setZN_y (v : Byte) (s : State) : (setZN v s).y = s.y := rfl
@[simp] theorem setZN_s (v : Byte) (s : State) : (setZN v s).s = s.s := rfl
@[simp] theorem setZN_pc (v : Byte) (s : State) : (setZN v s).pc = s.pc := rfl
@[simp] theorem setZN_p (v : Byte) (s : State) : (setZN v s).p = { s.p with z := v == 0#8, n := v.getLsbD 7 } := rfl
@[simp] theorem setZN_runState (v : Byte) (s : State) : (setZN v s).runState = s.runState := rfl
@[simp] theorem setZN_haltOpcode (v : Byte) (s : State) : (setZN v s).haltOpcode = s.haltOpcode := rfl
@[simp] theorem setZN_mem (v : Byte) (s : State) : (setZN v s).mem = s.mem := rfl

@[simp] theorem State.setFlag_a (s : State) (f : Flag) (b : Bool) : (s.setFlag f b).a = s.a := by cases f <;> rfl
@[simp] theorem State.setFlag_x (s : State) (f : Flag) (b : Bool) : (s.setFlag f b).x = s.x := by cases f <;> rfl
@[simp] theorem State.setFlag_y (s : State) (f : Flag) (b : Bool) : (s.setFlag f b).y = s.y := by cases f <;> rfl
@[simp] theorem State.setFlag_s (s : State) (f : Flag) (b : Bool) : (s.setFlag f b).s = s.s := by cases f <;> rfl
@[simp] theorem State.setFlag_pc (s : State) (f : Flag) (b : Bool) : (s.setFlag f b).pc = s.pc := by cases f <;> rfl
@[simp] theorem State.setFlag_runState (s : State) (f : Flag) (b : Bool) : (s.setFlag f b).runState = s.runState := by cases f <;> rfl
@[simp] theorem State.setFlag_haltOpcode (s : State) (f : Flag) (b : Bool) : (s.setFlag f b).haltOpcode = s.haltOpcode := by cases f <;> rfl
@[simp] theorem State.setFlag_mem (s : State) (f : Flag) (b : Bool) : (s.setFlag f b).mem = s.mem := by cases f <;> rfl

/-- A flag write is read back (10_state.md R28). -/
theorem State.getFlag_setFlag_same (s : State) (f : Flag) (b : Bool) : (s.setFlag f b).getFlag f = b := by
  cases f <;> rfl

/-- A flag write leaves every other flag alone (10_state.md R28). -/
theorem State.getFlag_setFlag_other (s : State) (f g : Flag) (b : Bool) (h : f ≠ g) :
    (s.setFlag f b).getFlag g = s.getFlag g := by
  cases f <;> cases g <;> first | rfl | exact absurd rfl h

end Sys2Proof.Machine
end

