-- ==== Sys2Proof/Laws/Memory.lean ====
section
/-! SUPPORT. The laws of memory: a read after a write, and that every operation keeps the canonical form. -/

namespace Sys2Proof.Machine

/-- An address below every listed one reads the default. -/
theorem memRead_below (m : Memory) (lo k : Nat) (h : memWfFrom lo m = true) (hk : k < lo) :
    memRead m k = memDefault := by
  induction m generalizing lo with
  | nil => rfl
  | cons e rest ih =>
    obtain ⟨j, u⟩ := e
    simp only [memWfFrom, Bool.and_eq_true, decide_eq_true_eq] at h
    simp only [memRead, if_neg (show ¬ j = k by omega)]
    exact ih _ h.2 (by omega)

/-- A read after a write to the same address gives the value written. -/
theorem memRead_memWrite_same (m : Memory) (k : Nat) (v : Byte) (lo : Nat) (h : memWfFrom lo m = true) :
    memRead (memWrite m k v) k = v := by
  induction m generalizing lo with
  | nil => by_cases hv : v = memDefault <;> simp [memWrite, memRead, hv]
  | cons e rest ih =>
    obtain ⟨j, u⟩ := e
    simp only [memWfFrom, Bool.and_eq_true, decide_eq_true_eq] at h
    unfold memWrite
    split
    · split
      · next hk hv =>
        simp only [memRead, if_neg (show ¬ j = k by omega)]
        rw [memRead_below rest _ _ h.2 (by omega), hv]
      · simp [memRead]
    · split
      · split
        · next hk hj hv => rw [memRead_below rest _ _ h.2 (by omega), hv]
        · simp [memRead]
      · next hk hj =>
        simp only [memRead, if_neg (show ¬ j = k by omega)]
        exact ih _ h.2

/-- A write leaves every other address alone, whatever the form of memory. -/
theorem memRead_memWrite_other (m : Memory) (k j : Nat) (v : Byte) (h : k ≠ j) :
    memRead (memWrite m k v) j = memRead m j := by
  induction m with
  | nil => by_cases hv : v = memDefault <;> simp [memWrite, memRead, hv, h]
  | cons e rest ih =>
    obtain ⟨i, u⟩ := e
    unfold memWrite
    split
    · split
      · rfl
      · simp [memRead, h]
    · split
      · next hk =>
        subst hk
        split <;> simp [memRead, h]
      · by_cases hi : i = j <;> simp [memRead, hi, ih]

theorem memWfFrom_mono (m : Memory) {lo lo' : Nat} (h : memWfFrom lo m = true) (hl : lo' ≤ lo) :
    memWfFrom lo' m = true := by
  cases m with
  | nil => rfl
  | cons e rest =>
    obtain ⟨j, u⟩ := e
    simp only [memWfFrom, Bool.and_eq_true, decide_eq_true_eq] at h ⊢
    exact ⟨⟨⟨by omega, h.1.1.2⟩, h.1.2⟩, h.2⟩

/-- A write inside the address space keeps the canonical form. -/
theorem memWfFrom_memWrite (m : Memory) (lo k : Nat) (v : Byte) (h : memWfFrom lo m = true) (hk : lo ≤ k)
    (hm : k < 65536) : memWfFrom lo (memWrite m k v) = true := by
  induction m generalizing lo with
  | nil => by_cases hv : v = memDefault <;> simp [memWrite, memWfFrom, hv, hk, hm]
  | cons e rest ih =>
    obtain ⟨j, u⟩ := e
    have h' := h
    simp only [memWfFrom, Bool.and_eq_true, decide_eq_true_eq] at h
    unfold memWrite
    split
    · split
      · exact h'
      · next hj hv =>
        simp only [memWfFrom, Bool.and_eq_true, decide_eq_true_eq]
        exact ⟨⟨⟨hk, hm⟩, hv⟩, ⟨⟨⟨by omega, h.1.1.2⟩, h.1.2⟩, h.2⟩⟩
    · split
      · split
        · exact memWfFrom_mono _ h.2 (by omega)
        · next hj hv =>
          simp only [memWfFrom, Bool.and_eq_true, decide_eq_true_eq]
          subst_vars
          exact ⟨⟨⟨hk, hm⟩, hv⟩, h.2⟩
      · simp only [memWfFrom, Bool.and_eq_true, decide_eq_true_eq]
        exact ⟨⟨⟨h.1.1.1, h.1.1.2⟩, h.1.2⟩, ih _ h.2 (by omega)⟩

/-- Two memories in canonical form that read the same everywhere are equal. -/
theorem memory_ext (m m' : Memory) (lo : Nat) (h : memWfFrom lo m = true) (h' : memWfFrom lo m' = true)
    (e : ∀ k, memRead m k = memRead m' k) : m = m' := by
  induction m generalizing m' lo with
  | nil =>
    cases m' with
    | nil => rfl
    | cons c r =>
      obtain ⟨j, u⟩ := c
      simp only [memWfFrom, Bool.and_eq_true, decide_eq_true_eq] at h'
      have hj := e j
      simp only [memRead, if_true] at hj
      exact absurd hj.symm h'.1.2
  | cons c r ih =>
    obtain ⟨j, u⟩ := c
    simp only [memWfFrom, Bool.and_eq_true, decide_eq_true_eq] at h
    cases m' with
    | nil =>
      have hj := e j
      simp only [memRead, if_true] at hj
      exact absurd hj h.1.2
    | cons c' r' =>
      obtain ⟨j', u'⟩ := c'
      simp only [memWfFrom, Bool.and_eq_true, decide_eq_true_eq] at h'
      have key : j = j' := by
        rcases Nat.lt_trichotomy j j' with hlt | heq | hgt
        · have hj := e j
          simp only [memRead, if_true, if_neg (show ¬ j' = j by omega)] at hj
          rw [memRead_below r' _ j h'.2 (by omega)] at hj
          exact absurd hj h.1.2
        · exact heq
        · have hj := e j'
          simp only [memRead, if_true, if_neg (show ¬ j = j' by omega)] at hj
          rw [memRead_below r _ j' h.2 (by omega)] at hj
          exact absurd hj.symm h'.1.2
      subst key
      have hu := e j
      simp only [memRead, if_true] at hu
      subst hu
      refine congrArg _ (ih r' (j + 1) h.2 h'.2 ?_)
      intro k
      have hk := e k
      simp only [memRead] at hk
      by_cases hjk : j = k
      · subst hjk
        rw [memRead_below r _ j h.2 (by omega), memRead_below r' _ j h'.2 (by omega)]
      · simpa [hjk] using hk

/-! ### The same laws over a state's bytes -/

@[simp] theorem readByte_writeByte_other (s : State) (k j : Word) (v : Byte) (h : k ≠ j) :
    (s.writeByte k v).readByte j = s.readByte j :=
  memRead_memWrite_other _ _ _ _ fun e => h (BitVec.eq_of_toNat_eq e)

theorem readByte_writeByte_same (s : State) (k : Word) (v : Byte) (h : s.mem.wf = true) :
    (s.writeByte k v).readByte k = v :=
  memRead_memWrite_same _ _ _ 0 h

/-- A byte write keeps memory's canonical form. -/
theorem writeByte_wf (s : State) (k : Word) (v : Byte) (h : s.mem.wf = true) : (s.writeByte k v).mem.wf = true :=
  memWfFrom_memWrite _ 0 _ _ h (Nat.zero_le _) k.isLt

/-- A word write keeps memory's canonical form. -/
theorem writeWord_wf (s : State) (k w : Word) (h : s.mem.wf = true) : (s.writeWord k w).mem.wf = true :=
  writeByte_wf _ _ _ (writeByte_wf _ _ _ h)

/-- Reading depends on memory alone. -/
theorem readByte_congr {s t : State} (h : s.mem = t.mem) (k : Word) : s.readByte k = t.readByte k := by
  unfold State.readByte; rw [h]

theorem reset_mem_wf : State.reset.mem.wf = true := rfl

end Sys2Proof.Machine
end

