-- ==== Sys2Proof/Laws/Ops.lean ====
section
/-! SUPPORT. One lemma for each shared operation that says everything it does, for proofs to cite instead of unfolding it, and
that each keeps memory's canonical form. -/

namespace Sys2Proof.Machine

/-! ### Words and the status byte -/

/-- A word is its high byte followed by its low byte. -/
@[simp] theorem mkWord_hiByte_loByte (w : Word) : mkWord (hiByte w) (loByte w) = w := by
  apply BitVec.eq_of_toNat_eq
  have hw := w.isLt
  simp only [mkWord, hiByte, loByte, BitVec.toNat_append, BitVec.extractLsb'_toNat]
  rw [← Nat.shiftLeft_add_eq_or_of_lt (Nat.mod_lt _ (by decide))]
  simp only [Nat.shiftLeft_eq, Nat.shiftRight_eq_div_pow]
  omega

@[simp] theorem loByte_mkWord (hi lo : Byte) : loByte (mkWord hi lo) = lo := by
  apply BitVec.eq_of_toNat_eq
  have := hi.isLt
  have := lo.isLt
  simp only [mkWord, loByte, BitVec.toNat_append, BitVec.extractLsb'_toNat]
  rw [← Nat.shiftLeft_add_eq_or_of_lt lo.isLt]
  simp only [Nat.shiftLeft_eq, Nat.shiftRight_eq_div_pow]
  omega

@[simp] theorem hiByte_mkWord (hi lo : Byte) : hiByte (mkWord hi lo) = hi := by
  apply BitVec.eq_of_toNat_eq
  have := hi.isLt
  have := lo.isLt
  simp only [mkWord, hiByte, BitVec.toNat_append, BitVec.extractLsb'_toNat]
  rw [← Nat.shiftLeft_add_eq_or_of_lt lo.isLt]
  simp only [Nat.shiftLeft_eq, Nat.shiftRight_eq_div_pow]
  omega

/-- A pushed status byte gives every flag back, and B as the pushed bit 4 (47_stack.md R283, R287). -/
@[simp] theorem flagsOfByte_statusByte (f : Flags) (b : Bool) : flagsOfByte (statusByte f b) = { f with b := b } := by
  have key : ∀ n v b' d i z c b : Bool,
      flagsOfByte (statusByte ⟨n, v, b', d, i, z, c⟩ b) = ⟨n, v, b, d, i, z, c⟩ := by decide
  exact key f.n f.v f.b f.d f.i f.z f.c b

/-- A stack address is 256 more than S: it lies in the stack page (47_stack.md R282). -/
theorem stackAddr_toNat (sp : Byte) : (stackAddr sp).toNat = 256 + sp.toNat := by
  revert sp; decide

/-- Different values of S select different bytes. -/
theorem stackAddr_inj {a b : Byte} (h : stackAddr a = stackAddr b) : a = b := by
  have := congrArg BitVec.toNat h
  rw [stackAddr_toNat, stackAddr_toNat] at this
  exact BitVec.eq_of_toNat_eq (by omega)

/-! ### The stack -/

theorem push_eq (v : Byte) (s : State) :
    push v s = { s with mem := memWrite s.mem (stackAddr s.s).toNat v, s := s.s - 1#8 } := rfl

theorem pull_eq (s : State) : pull s = (s.readByte (stackAddr (s.s + 1#8)), { s with s := s.s + 1#8 }) := rfl

theorem byte_sub_one_sub_one (b : Byte) : b - 1#8 - 1#8 = b - 2#8 := by revert b; decide

theorem byte_add_one_add_one (b : Byte) : b + 1#8 + 1#8 = b + 2#8 := by revert b; decide

theorem byte_add_one_add_two (b : Byte) : b + 1#8 + 2#8 = b + 3#8 := by revert b; decide

theorem byte_sub_two_sub_one (b : Byte) : b - 2#8 - 1#8 = b - 3#8 := by revert b; decide

theorem pushWord_eq (w : Word) (s : State) :
    pushWord w s =
      { s with
        mem := memWrite (memWrite s.mem (stackAddr s.s).toNat (hiByte w)) (stackAddr (s.s - 1#8)).toNat (loByte w)
        s := s.s - 2#8 } := by
  simp [pushWord, push_eq, byte_sub_one_sub_one]

theorem pullWord_eq (s : State) :
    pullWord s =
      (mkWord (s.readByte (stackAddr (s.s + 2#8))) (s.readByte (stackAddr (s.s + 1#8))), { s with s := s.s + 2#8 }) := by
  simp [pullWord, pull_eq, byte_add_one_add_one, State.readByte]

theorem pullFlags_eq (s : State) :
    pullFlags s = { s with s := s.s + 1#8, p := flagsOfByte (s.readByte (stackAddr (s.s + 1#8))) } := rfl

theorem push_wf (v : Byte) (s : State) (h : s.mem.wf = true) : (push v s).mem.wf = true := writeByte_wf _ _ _ h

theorem pushWord_wf (w : Word) (s : State) (h : s.mem.wf = true) : (pushWord w s).mem.wf = true :=
  push_wf _ _ (push_wf _ _ h)

/-! ### Interrupt entry and return -/

/-- The memory an interrupt entry leaves: three pushed bytes. -/
def entryMem (ret : Word) (b : Bool) (s : State) : Memory :=
  (push (statusByte s.p b) (pushWord ret s)).mem

theorem entryMem_eq (ret : Word) (b : Bool) (s : State) :
    entryMem ret b s =
      memWrite
        (memWrite (memWrite s.mem (stackAddr s.s).toNat (hiByte ret)) (stackAddr (s.s - 1#8)).toNat (loByte ret))
        (stackAddr (s.s - 2#8)).toNat (statusByte s.p b) := by
  simp [entryMem, push_eq, pushWord_eq]

theorem enterInterrupt_eq (ret : Word) (b : Bool) (vec : Word) (s : State) :
    enterInterrupt ret b vec s =
      { s with
        s := s.s - 3#8
        p := { s.p with i := true }
        pc := ({ s with mem := entryMem ret b s } : State).readWord vec
        mem := entryMem ret b s } := by
  simp [enterInterrupt, entryMem, push_eq, pushWord_eq, byte_sub_two_sub_one, State.setP, State.setPc, State.readWord,
    State.readByte]

theorem enterInterrupt_wf (ret : Word) (b : Bool) (vec : Word) (s : State) (h : s.mem.wf = true) :
    (enterInterrupt ret b vec s).mem.wf = true := push_wf _ _ (pushWord_wf _ _ h)

theorem returnFromInterrupt_eq (s : State) :
    returnFromInterrupt s =
      { s with
        s := s.s + 3#8
        p := flagsOfByte (s.readByte (stackAddr (s.s + 1#8)))
        pc := mkWord (s.readByte (stackAddr (s.s + 3#8))) (s.readByte (stackAddr (s.s + 2#8))) } := by
  simp [returnFromInterrupt, pullFlags_eq, pullWord_eq, byte_add_one_add_one, byte_add_one_add_two, State.setPc,
    State.readByte]

/-! ### The read-modify-write operations and the sums -/

theorem adcOp_binary (v : Byte) (s : State) :
    adcOp .binary v s =
      .next (putSum (sum9 s.a v s.p.c) (addOverflow s.a v (loByte (sum9 s.a v s.p.c))) s) := by
  simp [adcOp]

theorem sbcOp_binary (v : Byte) (s : State) :
    sbcOp .binary v s =
      .next (putSum (sum9 s.a (~~~v) s.p.c) (subOverflow s.a v (loByte (sum9 s.a (~~~v) s.p.c))) s) := by
  simp [sbcOp]

theorem shiftMem_mem (f : Byte → Bool → Byte × Bool) (ea : Word) (s : State) :
    (shiftMem f ea s).mem = memWrite s.mem ea.toNat (f (s.readByte ea) s.p.c).1 := rfl

theorem shiftMem_wf (f : Byte → Bool → Byte × Bool) (ea : Word) (s : State) (h : s.mem.wf = true) :
    (shiftMem f ea s).mem.wf = true := writeByte_wf _ _ _ h

theorem modifyMem_mem (f : Byte → Byte) (ea : Word) (s : State) :
    (modifyMem f ea s).mem = memWrite s.mem ea.toNat (f (s.readByte ea)) := rfl

theorem modifyMem_wf (f : Byte → Byte) (ea : Word) (s : State) (h : s.mem.wf = true) :
    (modifyMem f ea s).mem.wf = true := writeByte_wf _ _ _ h

/-- A branch changes nothing but PC (45_branch.md R248). -/
theorem branch_eq (cond : Bool) (off : Byte) (s : State) :
    branch cond off s = { s with pc := if cond then eaRel off s else s.pc } := by
  cases cond <;> rfl

/-! ### Host calls -/

theorem raiseNmi_wf (s : State) (h : s.mem.wf = true) : (raiseNmi s).mem.wf = true := by
  unfold raiseNmi; split
  · exact h
  · exact enterInterrupt_wf _ _ _ _ h

theorem raiseIrq_wf (s : State) (h : s.mem.wf = true) : (raiseIrq s).mem.wf = true := by
  unfold raiseIrq; split
  · exact h
  · split
    · exact h
    · exact enterInterrupt_wf _ _ _ _ h

theorem placeBytes_wf (l : List Byte) (addr : Word) (s : State) (h : s.mem.wf = true) :
    (placeBytes l addr s).mem.wf = true := by
  induction l generalizing addr s with
  | nil => exact h
  | cons v rest ih => exact ih _ _ (writeByte_wf _ _ _ h)

end Sys2Proof.Machine
end

