-- ==== Sys2Proof/Laws/Frames.lean ====
section
/-! SUPPORT. The frame of each shared operation: the fields that it leaves unchanged, one lemma per field. What it writes to
the others is in Laws/Ops.lean and Laws/State.lean. -/

namespace Sys2Proof.Machine

@[simp] theorem push_a (v : Byte) (s : State) : (push v s).a = s.a := rfl
@[simp] theorem push_x (v : Byte) (s : State) : (push v s).x = s.x := rfl
@[simp] theorem push_y (v : Byte) (s : State) : (push v s).y = s.y := rfl
@[simp] theorem push_pc (v : Byte) (s : State) : (push v s).pc = s.pc := rfl
@[simp] theorem push_p (v : Byte) (s : State) : (push v s).p = s.p := rfl
@[simp] theorem push_runState (v : Byte) (s : State) : (push v s).runState = s.runState := rfl
@[simp] theorem push_haltOpcode (v : Byte) (s : State) : (push v s).haltOpcode = s.haltOpcode := rfl

@[simp] theorem pushWord_a (w : Word) (s : State) : (pushWord w s).a = s.a := rfl
@[simp] theorem pushWord_x (w : Word) (s : State) : (pushWord w s).x = s.x := rfl
@[simp] theorem pushWord_y (w : Word) (s : State) : (pushWord w s).y = s.y := rfl
@[simp] theorem pushWord_pc (w : Word) (s : State) : (pushWord w s).pc = s.pc := rfl
@[simp] theorem pushWord_p (w : Word) (s : State) : (pushWord w s).p = s.p := rfl
@[simp] theorem pushWord_runState (w : Word) (s : State) : (pushWord w s).runState = s.runState := rfl
@[simp] theorem pushWord_haltOpcode (w : Word) (s : State) : (pushWord w s).haltOpcode = s.haltOpcode := rfl

@[simp] theorem pull_a (s : State) : (pull s).2.a = s.a := rfl
@[simp] theorem pull_x (s : State) : (pull s).2.x = s.x := rfl
@[simp] theorem pull_y (s : State) : (pull s).2.y = s.y := rfl
@[simp] theorem pull_pc (s : State) : (pull s).2.pc = s.pc := rfl
@[simp] theorem pull_p (s : State) : (pull s).2.p = s.p := rfl
@[simp] theorem pull_runState (s : State) : (pull s).2.runState = s.runState := rfl
@[simp] theorem pull_haltOpcode (s : State) : (pull s).2.haltOpcode = s.haltOpcode := rfl
@[simp] theorem pull_mem (s : State) : (pull s).2.mem = s.mem := rfl

@[simp] theorem pullWord_a (s : State) : (pullWord s).2.a = s.a := rfl
@[simp] theorem pullWord_x (s : State) : (pullWord s).2.x = s.x := rfl
@[simp] theorem pullWord_y (s : State) : (pullWord s).2.y = s.y := rfl
@[simp] theorem pullWord_pc (s : State) : (pullWord s).2.pc = s.pc := rfl
@[simp] theorem pullWord_p (s : State) : (pullWord s).2.p = s.p := rfl
@[simp] theorem pullWord_runState (s : State) : (pullWord s).2.runState = s.runState := rfl
@[simp] theorem pullWord_haltOpcode (s : State) : (pullWord s).2.haltOpcode = s.haltOpcode := rfl
@[simp] theorem pullWord_mem (s : State) : (pullWord s).2.mem = s.mem := rfl

@[simp] theorem pullFlags_a (s : State) : (pullFlags s).a = s.a := rfl
@[simp] theorem pullFlags_x (s : State) : (pullFlags s).x = s.x := rfl
@[simp] theorem pullFlags_y (s : State) : (pullFlags s).y = s.y := rfl
@[simp] theorem pullFlags_pc (s : State) : (pullFlags s).pc = s.pc := rfl
@[simp] theorem pullFlags_runState (s : State) : (pullFlags s).runState = s.runState := rfl
@[simp] theorem pullFlags_haltOpcode (s : State) : (pullFlags s).haltOpcode = s.haltOpcode := rfl
@[simp] theorem pullFlags_mem (s : State) : (pullFlags s).mem = s.mem := rfl

@[simp] theorem enterInterrupt_a (ret : Word) (b : Bool) (vec : Word) (s : State) : (enterInterrupt ret b vec s).a = s.a := by rw [enterInterrupt_eq]
@[simp] theorem enterInterrupt_x (ret : Word) (b : Bool) (vec : Word) (s : State) : (enterInterrupt ret b vec s).x = s.x := by rw [enterInterrupt_eq]
@[simp] theorem enterInterrupt_y (ret : Word) (b : Bool) (vec : Word) (s : State) : (enterInterrupt ret b vec s).y = s.y := by rw [enterInterrupt_eq]
@[simp] theorem enterInterrupt_runState (ret : Word) (b : Bool) (vec : Word) (s : State) : (enterInterrupt ret b vec s).runState = s.runState := by rw [enterInterrupt_eq]
@[simp] theorem enterInterrupt_haltOpcode (ret : Word) (b : Bool) (vec : Word) (s : State) : (enterInterrupt ret b vec s).haltOpcode = s.haltOpcode := by rw [enterInterrupt_eq]

@[simp] theorem returnFromInterrupt_a (s : State) : (returnFromInterrupt s).a = s.a := by rw [returnFromInterrupt_eq]
@[simp] theorem returnFromInterrupt_x (s : State) : (returnFromInterrupt s).x = s.x := by rw [returnFromInterrupt_eq]
@[simp] theorem returnFromInterrupt_y (s : State) : (returnFromInterrupt s).y = s.y := by rw [returnFromInterrupt_eq]
@[simp] theorem returnFromInterrupt_runState (s : State) : (returnFromInterrupt s).runState = s.runState := by rw [returnFromInterrupt_eq]
@[simp] theorem returnFromInterrupt_haltOpcode (s : State) : (returnFromInterrupt s).haltOpcode = s.haltOpcode := by rw [returnFromInterrupt_eq]
@[simp] theorem returnFromInterrupt_mem (s : State) : (returnFromInterrupt s).mem = s.mem := by rw [returnFromInterrupt_eq]

@[simp] theorem haltOnIllegal_a (op : Byte) (s : State) : (haltOnIllegal op s).a = s.a := rfl
@[simp] theorem haltOnIllegal_x (op : Byte) (s : State) : (haltOnIllegal op s).x = s.x := rfl
@[simp] theorem haltOnIllegal_y (op : Byte) (s : State) : (haltOnIllegal op s).y = s.y := rfl
@[simp] theorem haltOnIllegal_s (op : Byte) (s : State) : (haltOnIllegal op s).s = s.s := rfl
@[simp] theorem haltOnIllegal_pc (op : Byte) (s : State) : (haltOnIllegal op s).pc = s.pc := rfl
@[simp] theorem haltOnIllegal_p (op : Byte) (s : State) : (haltOnIllegal op s).p = s.p := rfl
@[simp] theorem haltOnIllegal_mem (op : Byte) (s : State) : (haltOnIllegal op s).mem = s.mem := rfl

@[simp] theorem advancePc_a (i : Instr) (s : State) : (advancePc i s).a = s.a := rfl
@[simp] theorem advancePc_x (i : Instr) (s : State) : (advancePc i s).x = s.x := rfl
@[simp] theorem advancePc_y (i : Instr) (s : State) : (advancePc i s).y = s.y := rfl
@[simp] theorem advancePc_s (i : Instr) (s : State) : (advancePc i s).s = s.s := rfl
@[simp] theorem advancePc_p (i : Instr) (s : State) : (advancePc i s).p = s.p := rfl
@[simp] theorem advancePc_runState (i : Instr) (s : State) : (advancePc i s).runState = s.runState := rfl
@[simp] theorem advancePc_haltOpcode (i : Instr) (s : State) : (advancePc i s).haltOpcode = s.haltOpcode := rfl
@[simp] theorem advancePc_mem (i : Instr) (s : State) : (advancePc i s).mem = s.mem := rfl

@[simp] theorem putSum_x (r : Word) (ov : Bool) (s : State) : (putSum r ov s).x = s.x := rfl
@[simp] theorem putSum_y (r : Word) (ov : Bool) (s : State) : (putSum r ov s).y = s.y := rfl
@[simp] theorem putSum_s (r : Word) (ov : Bool) (s : State) : (putSum r ov s).s = s.s := rfl
@[simp] theorem putSum_pc (r : Word) (ov : Bool) (s : State) : (putSum r ov s).pc = s.pc := rfl
@[simp] theorem putSum_runState (r : Word) (ov : Bool) (s : State) : (putSum r ov s).runState = s.runState := rfl
@[simp] theorem putSum_haltOpcode (r : Word) (ov : Bool) (s : State) : (putSum r ov s).haltOpcode = s.haltOpcode := rfl
@[simp] theorem putSum_mem (r : Word) (ov : Bool) (s : State) : (putSum r ov s).mem = s.mem := rfl

@[simp] theorem loadA_x (v : Byte) (s : State) : (loadA v s).x = s.x := rfl
@[simp] theorem loadA_y (v : Byte) (s : State) : (loadA v s).y = s.y := rfl
@[simp] theorem loadA_s (v : Byte) (s : State) : (loadA v s).s = s.s := rfl
@[simp] theorem loadA_pc (v : Byte) (s : State) : (loadA v s).pc = s.pc := rfl
@[simp] theorem loadA_runState (v : Byte) (s : State) : (loadA v s).runState = s.runState := rfl
@[simp] theorem loadA_haltOpcode (v : Byte) (s : State) : (loadA v s).haltOpcode = s.haltOpcode := rfl
@[simp] theorem loadA_mem (v : Byte) (s : State) : (loadA v s).mem = s.mem := rfl

@[simp] theorem loadX_a (v : Byte) (s : State) : (loadX v s).a = s.a := rfl
@[simp] theorem loadX_y (v : Byte) (s : State) : (loadX v s).y = s.y := rfl
@[simp] theorem loadX_s (v : Byte) (s : State) : (loadX v s).s = s.s := rfl
@[simp] theorem loadX_pc (v : Byte) (s : State) : (loadX v s).pc = s.pc := rfl
@[simp] theorem loadX_runState (v : Byte) (s : State) : (loadX v s).runState = s.runState := rfl
@[simp] theorem loadX_haltOpcode (v : Byte) (s : State) : (loadX v s).haltOpcode = s.haltOpcode := rfl
@[simp] theorem loadX_mem (v : Byte) (s : State) : (loadX v s).mem = s.mem := rfl

@[simp] theorem loadY_a (v : Byte) (s : State) : (loadY v s).a = s.a := rfl
@[simp] theorem loadY_x (v : Byte) (s : State) : (loadY v s).x = s.x := rfl
@[simp] theorem loadY_s (v : Byte) (s : State) : (loadY v s).s = s.s := rfl
@[simp] theorem loadY_pc (v : Byte) (s : State) : (loadY v s).pc = s.pc := rfl
@[simp] theorem loadY_runState (v : Byte) (s : State) : (loadY v s).runState = s.runState := rfl
@[simp] theorem loadY_haltOpcode (v : Byte) (s : State) : (loadY v s).haltOpcode = s.haltOpcode := rfl
@[simp] theorem loadY_mem (v : Byte) (s : State) : (loadY v s).mem = s.mem := rfl

@[simp] theorem shiftAcc_x (f : Byte → Bool → Byte × Bool) (s : State) : (shiftAcc f s).x = s.x := rfl
@[simp] theorem shiftAcc_y (f : Byte → Bool → Byte × Bool) (s : State) : (shiftAcc f s).y = s.y := rfl
@[simp] theorem shiftAcc_s (f : Byte → Bool → Byte × Bool) (s : State) : (shiftAcc f s).s = s.s := rfl
@[simp] theorem shiftAcc_pc (f : Byte → Bool → Byte × Bool) (s : State) : (shiftAcc f s).pc = s.pc := rfl
@[simp] theorem shiftAcc_runState (f : Byte → Bool → Byte × Bool) (s : State) : (shiftAcc f s).runState = s.runState := rfl
@[simp] theorem shiftAcc_haltOpcode (f : Byte → Bool → Byte × Bool) (s : State) : (shiftAcc f s).haltOpcode = s.haltOpcode := rfl
@[simp] theorem shiftAcc_mem (f : Byte → Bool → Byte × Bool) (s : State) : (shiftAcc f s).mem = s.mem := rfl

@[simp] theorem shiftMem_a (f : Byte → Bool → Byte × Bool) (ea : Word) (s : State) : (shiftMem f ea s).a = s.a := rfl
@[simp] theorem shiftMem_x (f : Byte → Bool → Byte × Bool) (ea : Word) (s : State) : (shiftMem f ea s).x = s.x := rfl
@[simp] theorem shiftMem_y (f : Byte → Bool → Byte × Bool) (ea : Word) (s : State) : (shiftMem f ea s).y = s.y := rfl
@[simp] theorem shiftMem_s (f : Byte → Bool → Byte × Bool) (ea : Word) (s : State) : (shiftMem f ea s).s = s.s := rfl
@[simp] theorem shiftMem_pc (f : Byte → Bool → Byte × Bool) (ea : Word) (s : State) : (shiftMem f ea s).pc = s.pc := rfl
@[simp] theorem shiftMem_runState (f : Byte → Bool → Byte × Bool) (ea : Word) (s : State) : (shiftMem f ea s).runState = s.runState := rfl
@[simp] theorem shiftMem_haltOpcode (f : Byte → Bool → Byte × Bool) (ea : Word) (s : State) : (shiftMem f ea s).haltOpcode = s.haltOpcode := rfl

@[simp] theorem modifyMem_a (f : Byte → Byte) (ea : Word) (s : State) : (modifyMem f ea s).a = s.a := rfl
@[simp] theorem modifyMem_x (f : Byte → Byte) (ea : Word) (s : State) : (modifyMem f ea s).x = s.x := rfl
@[simp] theorem modifyMem_y (f : Byte → Byte) (ea : Word) (s : State) : (modifyMem f ea s).y = s.y := rfl
@[simp] theorem modifyMem_s (f : Byte → Byte) (ea : Word) (s : State) : (modifyMem f ea s).s = s.s := rfl
@[simp] theorem modifyMem_pc (f : Byte → Byte) (ea : Word) (s : State) : (modifyMem f ea s).pc = s.pc := rfl
@[simp] theorem modifyMem_runState (f : Byte → Byte) (ea : Word) (s : State) : (modifyMem f ea s).runState = s.runState := rfl
@[simp] theorem modifyMem_haltOpcode (f : Byte → Byte) (ea : Word) (s : State) : (modifyMem f ea s).haltOpcode = s.haltOpcode := rfl

@[simp] theorem compareOp_a (r v : Byte) (s : State) : (compareOp r v s).a = s.a := rfl
@[simp] theorem compareOp_x (r v : Byte) (s : State) : (compareOp r v s).x = s.x := rfl
@[simp] theorem compareOp_y (r v : Byte) (s : State) : (compareOp r v s).y = s.y := rfl
@[simp] theorem compareOp_s (r v : Byte) (s : State) : (compareOp r v s).s = s.s := rfl
@[simp] theorem compareOp_pc (r v : Byte) (s : State) : (compareOp r v s).pc = s.pc := rfl
@[simp] theorem compareOp_runState (r v : Byte) (s : State) : (compareOp r v s).runState = s.runState := rfl
@[simp] theorem compareOp_haltOpcode (r v : Byte) (s : State) : (compareOp r v s).haltOpcode = s.haltOpcode := rfl
@[simp] theorem compareOp_mem (r v : Byte) (s : State) : (compareOp r v s).mem = s.mem := rfl

@[simp] theorem bitTest_a (v : Byte) (s : State) : (bitTest v s).a = s.a := rfl
@[simp] theorem bitTest_x (v : Byte) (s : State) : (bitTest v s).x = s.x := rfl
@[simp] theorem bitTest_y (v : Byte) (s : State) : (bitTest v s).y = s.y := rfl
@[simp] theorem bitTest_s (v : Byte) (s : State) : (bitTest v s).s = s.s := rfl
@[simp] theorem bitTest_pc (v : Byte) (s : State) : (bitTest v s).pc = s.pc := rfl
@[simp] theorem bitTest_runState (v : Byte) (s : State) : (bitTest v s).runState = s.runState := rfl
@[simp] theorem bitTest_haltOpcode (v : Byte) (s : State) : (bitTest v s).haltOpcode = s.haltOpcode := rfl
@[simp] theorem bitTest_mem (v : Byte) (s : State) : (bitTest v s).mem = s.mem := rfl

@[simp] theorem branch_a (c : Bool) (off : Byte) (s : State) : (branch c off s).a = s.a := by cases c <;> rfl
@[simp] theorem branch_x (c : Bool) (off : Byte) (s : State) : (branch c off s).x = s.x := by cases c <;> rfl
@[simp] theorem branch_y (c : Bool) (off : Byte) (s : State) : (branch c off s).y = s.y := by cases c <;> rfl
@[simp] theorem branch_s (c : Bool) (off : Byte) (s : State) : (branch c off s).s = s.s := by cases c <;> rfl
@[simp] theorem branch_p (c : Bool) (off : Byte) (s : State) : (branch c off s).p = s.p := by cases c <;> rfl
@[simp] theorem branch_runState (c : Bool) (off : Byte) (s : State) : (branch c off s).runState = s.runState := by cases c <;> rfl
@[simp] theorem branch_haltOpcode (c : Bool) (off : Byte) (s : State) : (branch c off s).haltOpcode = s.haltOpcode := by cases c <;> rfl
@[simp] theorem branch_mem (c : Bool) (off : Byte) (s : State) : (branch c off s).mem = s.mem := by cases c <;> rfl

@[simp] theorem jumpSubroutine_a (w : Word) (s : State) : (jumpSubroutine w s).a = s.a := rfl
@[simp] theorem jumpSubroutine_x (w : Word) (s : State) : (jumpSubroutine w s).x = s.x := rfl
@[simp] theorem jumpSubroutine_y (w : Word) (s : State) : (jumpSubroutine w s).y = s.y := rfl
@[simp] theorem jumpSubroutine_p (w : Word) (s : State) : (jumpSubroutine w s).p = s.p := rfl
@[simp] theorem jumpSubroutine_runState (w : Word) (s : State) : (jumpSubroutine w s).runState = s.runState := rfl
@[simp] theorem jumpSubroutine_haltOpcode (w : Word) (s : State) : (jumpSubroutine w s).haltOpcode = s.haltOpcode := rfl

@[simp] theorem returnSubroutine_a (s : State) : (returnSubroutine s).a = s.a := rfl
@[simp] theorem returnSubroutine_x (s : State) : (returnSubroutine s).x = s.x := rfl
@[simp] theorem returnSubroutine_y (s : State) : (returnSubroutine s).y = s.y := rfl
@[simp] theorem returnSubroutine_p (s : State) : (returnSubroutine s).p = s.p := rfl
@[simp] theorem returnSubroutine_runState (s : State) : (returnSubroutine s).runState = s.runState := rfl
@[simp] theorem returnSubroutine_haltOpcode (s : State) : (returnSubroutine s).haltOpcode = s.haltOpcode := rfl
@[simp] theorem returnSubroutine_mem (s : State) : (returnSubroutine s).mem = s.mem := rfl

@[simp] theorem pullA_x (s : State) : (pullA s).x = s.x := rfl
@[simp] theorem pullA_y (s : State) : (pullA s).y = s.y := rfl
@[simp] theorem pullA_pc (s : State) : (pullA s).pc = s.pc := rfl
@[simp] theorem pullA_runState (s : State) : (pullA s).runState = s.runState := rfl
@[simp] theorem pullA_haltOpcode (s : State) : (pullA s).haltOpcode = s.haltOpcode := rfl
@[simp] theorem pullA_mem (s : State) : (pullA s).mem = s.mem := rfl

@[simp] theorem applyReset_a (u : Byte) (s : State) : (applyReset u s).a = s.a := rfl
@[simp] theorem applyReset_x (u : Byte) (s : State) : (applyReset u s).x = s.x := rfl
@[simp] theorem applyReset_y (u : Byte) (s : State) : (applyReset u s).y = s.y := rfl
@[simp] theorem applyReset_mem (u : Byte) (s : State) : (applyReset u s).mem = s.mem := rfl

/-! The stack pointer and the memory that each operation leaves. -/

@[simp] theorem enterInterrupt_s (ret : Word) (b : Bool) (vec : Word) (s : State) :
    (enterInterrupt ret b vec s).s = s.s - 3#8 := by rw [enterInterrupt_eq]

@[simp] theorem enterInterrupt_mem (ret : Word) (b : Bool) (vec : Word) (s : State) :
    (enterInterrupt ret b vec s).mem = entryMem ret b s := by rw [enterInterrupt_eq]

@[simp] theorem returnFromInterrupt_s (s : State) : (returnFromInterrupt s).s = s.s + 3#8 := by
  rw [returnFromInterrupt_eq]

@[simp] theorem returnFromInterrupt_p (s : State) :
    (returnFromInterrupt s).p = flagsOfByte (s.readByte (stackAddr (s.s + 1#8))) := by
  rw [returnFromInterrupt_eq]

@[simp] theorem jumpSubroutine_s (w : Word) (s : State) : (jumpSubroutine w s).s = s.s - 2#8 := by
  simp [jumpSubroutine, pushWord_eq]

@[simp] theorem returnSubroutine_s (s : State) : (returnSubroutine s).s = s.s + 2#8 := by
  simp [returnSubroutine, pullWord_eq]

/-! The flags that each operation leaves. -/

@[simp] theorem putSum_flags (r : Word) (ov : Bool) (s : State) :
    (putSum r ov s).p =
      { s.p with c := r.getLsbD 8, v := ov, z := loByte r == 0#8, n := (loByte r).getLsbD 7 } := rfl

@[simp] theorem loadA_p (v : Byte) (s : State) : (loadA v s).p = { s.p with z := v == 0#8, n := v.getLsbD 7 } := rfl
@[simp] theorem loadX_p (v : Byte) (s : State) : (loadX v s).p = { s.p with z := v == 0#8, n := v.getLsbD 7 } := rfl
@[simp] theorem loadY_p (v : Byte) (s : State) : (loadY v s).p = { s.p with z := v == 0#8, n := v.getLsbD 7 } := rfl

@[simp] theorem shiftAcc_p (f : Byte → Bool → Byte × Bool) (s : State) :
    (shiftAcc f s).p =
      { s.p with c := (f s.a s.p.c).2, z := (f s.a s.p.c).1 == 0#8, n := (f s.a s.p.c).1.getLsbD 7 } := rfl

@[simp] theorem shiftMem_p (f : Byte → Bool → Byte × Bool) (ea : Word) (s : State) :
    (shiftMem f ea s).p =
      { s.p with
        c := (f (s.readByte ea) s.p.c).2
        z := (f (s.readByte ea) s.p.c).1 == 0#8
        n := (f (s.readByte ea) s.p.c).1.getLsbD 7 } := rfl

@[simp] theorem modifyMem_p (f : Byte → Byte) (ea : Word) (s : State) :
    (modifyMem f ea s).p =
      { s.p with z := f (s.readByte ea) == 0#8, n := (f (s.readByte ea)).getLsbD 7 } := rfl

@[simp] theorem enterInterrupt_p (ret : Word) (b : Bool) (vec : Word) (s : State) :
    (enterInterrupt ret b vec s).p = { s.p with i := true } := by rw [enterInterrupt_eq]

end Sys2Proof.Machine
end

