-- ==== Sys2Proof/Laws/Decode.lean ====
section
/-! SUPPORT. What the decoder does on each instruction's bytes, and the two ways to go through all opcode bytes. -/

namespace Sys2Proof

/-- A fact about every byte is 256 closed facts. -/
theorem forall_byte {P : Byte → Prop} (h : ∀ n : Fin 256, P (BitVec.ofNat 8 n.val)) (b : Byte) : P b := by
  simpa using h ⟨b.toNat, b.isLt⟩

/-- The opcode byte of an instruction decodes to its operation and mode. -/
theorem decodeOpcode_opcode (i : Instr) (o : Operation) (h : i.operation = some o) :
    decodeOpcode i.opcode = some (o, i.operand.kind) := by
  cases i <;> cases h <;> (simp only [Instr.opcode, Instr.operand, Operand.kind]; decide +kernel)

/-- The operand bytes that a mode reads are the bytes its payload has. -/
theorem operand_bytes_length (o : Operand) : o.bytes.length = o.kind.operandBytes := by
  cases o <;> rfl

/-- The operation and mode of an instruction with its operand bytes assemble to it; a byte that its mode does not read plays
no part. -/
theorem assemble_operand (i : Instr) (o : Operation) (h : i.operation = some o) (b1 b2 : Byte)
    (h1 : 1 ≤ i.operandBytes → b1 = i.operand.bytes.getD 0 0#8)
    (h2 : 2 ≤ i.operandBytes → b2 = i.operand.bytes.getD 1 0#8) : assemble o i.operand.kind b1 b2 = some i := by
  cases i <;> cases h <;>
    simp [assemble, Instr.operand, Operand.kind, Operand.bytes, Instr.operandBytes,
      AddressingModeKind.operandBytes] at h1 h2 ⊢ <;>
    simp [h1, h2]

/-- The illegal bytes are the bytes that decode to nothing (30_encoding.md R92). -/
theorem decodeOpcode_eq_none (op : Byte) : decodeOpcode op = none ↔ op ∈ illegalBytes := by
  have key : ∀ op : Byte, (decodeOpcode op).isNone = illegalBytes.contains op := by decide +kernel
  rw [← Option.isNone_iff_eq_none, key op, List.contains_iff_mem]

/-- An illegal byte decodes to `illegal`, whatever follows it. -/
theorem decodeInstr_illegal (op b1 b2 : Byte) (h : op ∈ illegalBytes) : decodeInstr op b1 b2 = .illegal op := by
  simp [decodeInstr, (decodeOpcode_eq_none op).mpr h]

/-- An instruction's own bytes decode to it; a byte that its mode does not read plays no part. -/
theorem decodeInstr_own (i : Instr) (o : Operation) (h : i.operation = some o) (b1 b2 : Byte)
    (h1 : 1 ≤ i.operandBytes → b1 = i.operand.bytes.getD 0 0#8)
    (h2 : 2 ≤ i.operandBytes → b2 = i.operand.bytes.getD 1 0#8) : decodeInstr i.opcode b1 b2 = i := by
  simp [decodeInstr, decodeOpcode_opcode i o h, assemble_operand i o h b1 b2 h1 h2]

/-- Every pair the decoder yields is legal (30_encoding.md R82). -/
theorem decodeOpcode_legal (op : Byte) (o : Operation) (k : AddressingModeKind) (h : decodeOpcode op = some (o, k)) :
    k ∈ legalModes o := by
  have key : ∀ op : Byte, ((decodeOpcode op).all fun x => (legalModes x.1).contains x.2) = true := by decide +kernel
  have := key op
  rw [h] at this
  exact List.contains_iff_mem.mp this

/-- A legal pair assembles to an instruction of that operation and mode (30_encoding.md R91). -/
theorem assemble_legal (o : Operation) (k : AddressingModeKind) (h : k ∈ legalModes o) (b1 b2 : Byte) :
    ∃ i, assemble o k b1 b2 = some i ∧ i.operation = some o ∧ i.operand.kind = k := by
  cases o <;> simp only [legalModes, List.mem_cons, List.not_mem_nil, or_false] at h <;>
    (repeat' (rcases h with rfl | h)) <;> exact ⟨_, rfl, rfl, rfl⟩

/-- A byte that decodes to an operation and a mode gives an instruction of them. -/
theorem decodeInstr_some (op b1 b2 : Byte) (o : Operation) (k : AddressingModeKind) (h : decodeOpcode op = some (o, k)) :
    (decodeInstr op b1 b2).operation = some o ∧ (decodeInstr op b1 b2).operand.kind = k := by
  obtain ⟨i, hi, ho, hk⟩ := assemble_legal o k (decodeOpcode_legal op o k h) b1 b2
  simp [decodeInstr, h, hi, ho, hk]

/-- A byte decodes to no operation exactly when its instruction has none. -/
theorem operation_decodeInstr (op b1 b2 : Byte) :
    (decodeInstr op b1 b2).operation = none ↔ decodeOpcode op = none := by
  cases hd : decodeOpcode op with
  | none => simp [decodeInstr, hd, Instr.operation]
  | some ok => simp [(decodeInstr_some op b1 b2 ok.1 ok.2 hd).1]

end Sys2Proof
end

