-- ==== Sys2Proof/Laws/HostCalls.lean ====
section
/-! SUPPORT. What the host's actions do to memory, and the two views of a driver in a system of several. -/

namespace Sys2Proof.Machine

/-- Every action keeps memory's canonical form. -/
theorem hostAction_wf (a : HostAction) (s : State) (h : s.mem.wf = true) : (hostAction a s).mem.wf = true := by
  cases a with
  | raiseIrq => exact raiseIrq_wf s h
  | raiseNmi => exact raiseNmi_wf s h
  | setFlag f new => cases f <;> exact h
  | writeByte addr v => exact writeByte_wf s addr v h
  | writeWord addr v => exact writeWord_wf s addr v h
  | _ => exact h

theorem hostActions_wf (l : List HostAction) (s : State) (h : s.mem.wf = true) : (hostActions l s).mem.wf = true := by
  induction l generalizing s with
  | nil => exact h
  | cons a rest ih => exact ih _ (hostAction_wf a s h)

theorem hostCall_act (a : HostAction) (s : State) : hostCall (.act a) s = .next (hostAction a s, none) := rfl

@[simp] theorem hostSetPc_mem (v : Word) (u : Byte) (s : State) : (hostSetPc v u s).mem = s.mem := rfl
@[simp] theorem launch_mem (regs : PowerOn) (m : Memory) (u : Byte) : (launch regs m u).mem = m := rfl

@[simp] theorem joinState_coreOf (s : State) : joinState (coreOf s) s.mem = s := rfl
@[simp] theorem coreOf_joinState (d : CoreState) (m : Memory) : coreOf (joinState d m) = d := rfl
@[simp] theorem joinState_mem (d : CoreState) (m : Memory) : (joinState d m).mem = m := rfl

end Sys2Proof.Machine
end

