-- ==== Sys2Proof/Laws/PerInstr.lean ====
section
/-! SUPPORT. Statements made for every constructor of `Instr`. -/

/-- The shape of an instruction: its mode is legal for its operation (30_encoding.md R91), and its encoding has the length
that its mode fixes (R94). -/
def Sys2Proof.Laws.Shape.Statement (i : Sys2Proof.Instr) : Prop :=
  (∀ o, i.operation = some o → i.operand.kind ∈ Sys2Proof.legalModes o) ∧ (Sys2Proof.encode i).length = i.length

namespace Sys2Proof.Laws.Shape

/-- From the two facts that computation settles. -/
theorem intro (i : Instr) (o : Operation) (ho : i.operation = some o) (hk : (legalModes o).contains i.operand.kind = true)
    (hl : (encode i).length = i.length) : Statement i :=
  ⟨fun o' h => by rw [ho] at h; cases h; exact List.contains_iff_mem.mp hk, hl⟩

theorem adcImm (v : Byte) : Statement (.adcImm v) := intro _ _ rfl rfl rfl
theorem adcZp (z : Byte) : Statement (.adcZp z) := intro _ _ rfl rfl rfl
theorem adcZpX (z : Byte) : Statement (.adcZpX z) := intro _ _ rfl rfl rfl
theorem adcAbs (w : Word) : Statement (.adcAbs w) := intro _ _ rfl rfl rfl
theorem adcAbsX (w : Word) : Statement (.adcAbsX w) := intro _ _ rfl rfl rfl
theorem adcAbsY (w : Word) : Statement (.adcAbsY w) := intro _ _ rfl rfl rfl
theorem adcIzX (z : Byte) : Statement (.adcIzX z) := intro _ _ rfl rfl rfl
theorem adcIzY (z : Byte) : Statement (.adcIzY z) := intro _ _ rfl rfl rfl
theorem sbcImm (v : Byte) : Statement (.sbcImm v) := intro _ _ rfl rfl rfl
theorem sbcZp (z : Byte) : Statement (.sbcZp z) := intro _ _ rfl rfl rfl
theorem sbcZpX (z : Byte) : Statement (.sbcZpX z) := intro _ _ rfl rfl rfl
theorem sbcAbs (w : Word) : Statement (.sbcAbs w) := intro _ _ rfl rfl rfl
theorem sbcAbsX (w : Word) : Statement (.sbcAbsX w) := intro _ _ rfl rfl rfl
theorem sbcAbsY (w : Word) : Statement (.sbcAbsY w) := intro _ _ rfl rfl rfl
theorem sbcIzX (z : Byte) : Statement (.sbcIzX z) := intro _ _ rfl rfl rfl
theorem sbcIzY (z : Byte) : Statement (.sbcIzY z) := intro _ _ rfl rfl rfl
theorem andImm (v : Byte) : Statement (.andImm v) := intro _ _ rfl rfl rfl
theorem andZp (z : Byte) : Statement (.andZp z) := intro _ _ rfl rfl rfl
theorem andZpX (z : Byte) : Statement (.andZpX z) := intro _ _ rfl rfl rfl
theorem andAbs (w : Word) : Statement (.andAbs w) := intro _ _ rfl rfl rfl
theorem andAbsX (w : Word) : Statement (.andAbsX w) := intro _ _ rfl rfl rfl
theorem andAbsY (w : Word) : Statement (.andAbsY w) := intro _ _ rfl rfl rfl
theorem andIzX (z : Byte) : Statement (.andIzX z) := intro _ _ rfl rfl rfl
theorem andIzY (z : Byte) : Statement (.andIzY z) := intro _ _ rfl rfl rfl
theorem oraImm (v : Byte) : Statement (.oraImm v) := intro _ _ rfl rfl rfl
theorem oraZp (z : Byte) : Statement (.oraZp z) := intro _ _ rfl rfl rfl
theorem oraZpX (z : Byte) : Statement (.oraZpX z) := intro _ _ rfl rfl rfl
theorem oraAbs (w : Word) : Statement (.oraAbs w) := intro _ _ rfl rfl rfl
theorem oraAbsX (w : Word) : Statement (.oraAbsX w) := intro _ _ rfl rfl rfl
theorem oraAbsY (w : Word) : Statement (.oraAbsY w) := intro _ _ rfl rfl rfl
theorem oraIzX (z : Byte) : Statement (.oraIzX z) := intro _ _ rfl rfl rfl
theorem oraIzY (z : Byte) : Statement (.oraIzY z) := intro _ _ rfl rfl rfl
theorem eorImm (v : Byte) : Statement (.eorImm v) := intro _ _ rfl rfl rfl
theorem eorZp (z : Byte) : Statement (.eorZp z) := intro _ _ rfl rfl rfl
theorem eorZpX (z : Byte) : Statement (.eorZpX z) := intro _ _ rfl rfl rfl
theorem eorAbs (w : Word) : Statement (.eorAbs w) := intro _ _ rfl rfl rfl
theorem eorAbsX (w : Word) : Statement (.eorAbsX w) := intro _ _ rfl rfl rfl
theorem eorAbsY (w : Word) : Statement (.eorAbsY w) := intro _ _ rfl rfl rfl
theorem eorIzX (z : Byte) : Statement (.eorIzX z) := intro _ _ rfl rfl rfl
theorem eorIzY (z : Byte) : Statement (.eorIzY z) := intro _ _ rfl rfl rfl
theorem aslAcc : Statement .aslAcc := intro _ _ rfl rfl rfl
theorem aslZp (z : Byte) : Statement (.aslZp z) := intro _ _ rfl rfl rfl
theorem aslZpX (z : Byte) : Statement (.aslZpX z) := intro _ _ rfl rfl rfl
theorem aslAbs (w : Word) : Statement (.aslAbs w) := intro _ _ rfl rfl rfl
theorem aslAbsX (w : Word) : Statement (.aslAbsX w) := intro _ _ rfl rfl rfl
theorem lsrAcc : Statement .lsrAcc := intro _ _ rfl rfl rfl
theorem lsrZp (z : Byte) : Statement (.lsrZp z) := intro _ _ rfl rfl rfl
theorem lsrZpX (z : Byte) : Statement (.lsrZpX z) := intro _ _ rfl rfl rfl
theorem lsrAbs (w : Word) : Statement (.lsrAbs w) := intro _ _ rfl rfl rfl
theorem lsrAbsX (w : Word) : Statement (.lsrAbsX w) := intro _ _ rfl rfl rfl
theorem rolAcc : Statement .rolAcc := intro _ _ rfl rfl rfl
theorem rolZp (z : Byte) : Statement (.rolZp z) := intro _ _ rfl rfl rfl
theorem rolZpX (z : Byte) : Statement (.rolZpX z) := intro _ _ rfl rfl rfl
theorem rolAbs (w : Word) : Statement (.rolAbs w) := intro _ _ rfl rfl rfl
theorem rolAbsX (w : Word) : Statement (.rolAbsX w) := intro _ _ rfl rfl rfl
theorem rorAcc : Statement .rorAcc := intro _ _ rfl rfl rfl
theorem rorZp (z : Byte) : Statement (.rorZp z) := intro _ _ rfl rfl rfl
theorem rorZpX (z : Byte) : Statement (.rorZpX z) := intro _ _ rfl rfl rfl
theorem rorAbs (w : Word) : Statement (.rorAbs w) := intro _ _ rfl rfl rfl
theorem rorAbsX (w : Word) : Statement (.rorAbsX w) := intro _ _ rfl rfl rfl
theorem bitZp (z : Byte) : Statement (.bitZp z) := intro _ _ rfl rfl rfl
theorem bitAbs (w : Word) : Statement (.bitAbs w) := intro _ _ rfl rfl rfl
theorem ldaImm (v : Byte) : Statement (.ldaImm v) := intro _ _ rfl rfl rfl
theorem ldaZp (z : Byte) : Statement (.ldaZp z) := intro _ _ rfl rfl rfl
theorem ldaZpX (z : Byte) : Statement (.ldaZpX z) := intro _ _ rfl rfl rfl
theorem ldaAbs (w : Word) : Statement (.ldaAbs w) := intro _ _ rfl rfl rfl
theorem ldaAbsX (w : Word) : Statement (.ldaAbsX w) := intro _ _ rfl rfl rfl
theorem ldaAbsY (w : Word) : Statement (.ldaAbsY w) := intro _ _ rfl rfl rfl
theorem ldaIzX (z : Byte) : Statement (.ldaIzX z) := intro _ _ rfl rfl rfl
theorem ldaIzY (z : Byte) : Statement (.ldaIzY z) := intro _ _ rfl rfl rfl
theorem ldxImm (v : Byte) : Statement (.ldxImm v) := intro _ _ rfl rfl rfl
theorem ldxZp (z : Byte) : Statement (.ldxZp z) := intro _ _ rfl rfl rfl
theorem ldxZpY (z : Byte) : Statement (.ldxZpY z) := intro _ _ rfl rfl rfl
theorem ldxAbs (w : Word) : Statement (.ldxAbs w) := intro _ _ rfl rfl rfl
theorem ldxAbsY (w : Word) : Statement (.ldxAbsY w) := intro _ _ rfl rfl rfl
theorem ldyImm (v : Byte) : Statement (.ldyImm v) := intro _ _ rfl rfl rfl
theorem ldyZp (z : Byte) : Statement (.ldyZp z) := intro _ _ rfl rfl rfl
theorem ldyZpX (z : Byte) : Statement (.ldyZpX z) := intro _ _ rfl rfl rfl
theorem ldyAbs (w : Word) : Statement (.ldyAbs w) := intro _ _ rfl rfl rfl
theorem ldyAbsX (w : Word) : Statement (.ldyAbsX w) := intro _ _ rfl rfl rfl
theorem staZp (z : Byte) : Statement (.staZp z) := intro _ _ rfl rfl rfl
theorem staZpX (z : Byte) : Statement (.staZpX z) := intro _ _ rfl rfl rfl
theorem staAbs (w : Word) : Statement (.staAbs w) := intro _ _ rfl rfl rfl
theorem staAbsX (w : Word) : Statement (.staAbsX w) := intro _ _ rfl rfl rfl
theorem staAbsY (w : Word) : Statement (.staAbsY w) := intro _ _ rfl rfl rfl
theorem staIzX (z : Byte) : Statement (.staIzX z) := intro _ _ rfl rfl rfl
theorem staIzY (z : Byte) : Statement (.staIzY z) := intro _ _ rfl rfl rfl
theorem stxZp (z : Byte) : Statement (.stxZp z) := intro _ _ rfl rfl rfl
theorem stxZpY (z : Byte) : Statement (.stxZpY z) := intro _ _ rfl rfl rfl
theorem stxAbs (w : Word) : Statement (.stxAbs w) := intro _ _ rfl rfl rfl
theorem styZp (z : Byte) : Statement (.styZp z) := intro _ _ rfl rfl rfl
theorem styZpX (z : Byte) : Statement (.styZpX z) := intro _ _ rfl rfl rfl
theorem styAbs (w : Word) : Statement (.styAbs w) := intro _ _ rfl rfl rfl
theorem incZp (z : Byte) : Statement (.incZp z) := intro _ _ rfl rfl rfl
theorem incZpX (z : Byte) : Statement (.incZpX z) := intro _ _ rfl rfl rfl
theorem incAbs (w : Word) : Statement (.incAbs w) := intro _ _ rfl rfl rfl
theorem incAbsX (w : Word) : Statement (.incAbsX w) := intro _ _ rfl rfl rfl
theorem decZp (z : Byte) : Statement (.decZp z) := intro _ _ rfl rfl rfl
theorem decZpX (z : Byte) : Statement (.decZpX z) := intro _ _ rfl rfl rfl
theorem decAbs (w : Word) : Statement (.decAbs w) := intro _ _ rfl rfl rfl
theorem decAbsX (w : Word) : Statement (.decAbsX w) := intro _ _ rfl rfl rfl
theorem inx : Statement .inx := intro _ _ rfl rfl rfl
theorem iny : Statement .iny := intro _ _ rfl rfl rfl
theorem dex : Statement .dex := intro _ _ rfl rfl rfl
theorem dey : Statement .dey := intro _ _ rfl rfl rfl
theorem cmpImm (v : Byte) : Statement (.cmpImm v) := intro _ _ rfl rfl rfl
theorem cmpZp (z : Byte) : Statement (.cmpZp z) := intro _ _ rfl rfl rfl
theorem cmpZpX (z : Byte) : Statement (.cmpZpX z) := intro _ _ rfl rfl rfl
theorem cmpAbs (w : Word) : Statement (.cmpAbs w) := intro _ _ rfl rfl rfl
theorem cmpAbsX (w : Word) : Statement (.cmpAbsX w) := intro _ _ rfl rfl rfl
theorem cmpAbsY (w : Word) : Statement (.cmpAbsY w) := intro _ _ rfl rfl rfl
theorem cmpIzX (z : Byte) : Statement (.cmpIzX z) := intro _ _ rfl rfl rfl
theorem cmpIzY (z : Byte) : Statement (.cmpIzY z) := intro _ _ rfl rfl rfl
theorem cpxImm (v : Byte) : Statement (.cpxImm v) := intro _ _ rfl rfl rfl
theorem cpxZp (z : Byte) : Statement (.cpxZp z) := intro _ _ rfl rfl rfl
theorem cpxAbs (w : Word) : Statement (.cpxAbs w) := intro _ _ rfl rfl rfl
theorem cpyImm (v : Byte) : Statement (.cpyImm v) := intro _ _ rfl rfl rfl
theorem cpyZp (z : Byte) : Statement (.cpyZp z) := intro _ _ rfl rfl rfl
theorem cpyAbs (w : Word) : Statement (.cpyAbs w) := intro _ _ rfl rfl rfl
theorem bpl (off : Byte) : Statement (.bpl off) := intro _ _ rfl rfl rfl
theorem bmi (off : Byte) : Statement (.bmi off) := intro _ _ rfl rfl rfl
theorem bvc (off : Byte) : Statement (.bvc off) := intro _ _ rfl rfl rfl
theorem bvs (off : Byte) : Statement (.bvs off) := intro _ _ rfl rfl rfl
theorem bcc (off : Byte) : Statement (.bcc off) := intro _ _ rfl rfl rfl
theorem bcs (off : Byte) : Statement (.bcs off) := intro _ _ rfl rfl rfl
theorem bne (off : Byte) : Statement (.bne off) := intro _ _ rfl rfl rfl
theorem beq (off : Byte) : Statement (.beq off) := intro _ _ rfl rfl rfl
theorem jmpAbs (w : Word) : Statement (.jmpAbs w) := intro _ _ rfl rfl rfl
theorem jmpInd (w : Word) : Statement (.jmpInd w) := intro _ _ rfl rfl rfl
theorem jsr (w : Word) : Statement (.jsr w) := intro _ _ rfl rfl rfl
theorem rts : Statement .rts := intro _ _ rfl rfl rfl
theorem brk : Statement .brk := intro _ _ rfl rfl rfl
theorem rti : Statement .rti := intro _ _ rfl rfl rfl
theorem pha : Statement .pha := intro _ _ rfl rfl rfl
theorem pla : Statement .pla := intro _ _ rfl rfl rfl
theorem php : Statement .php := intro _ _ rfl rfl rfl
theorem plp : Statement .plp := intro _ _ rfl rfl rfl
theorem tax : Statement .tax := intro _ _ rfl rfl rfl
theorem txa : Statement .txa := intro _ _ rfl rfl rfl
theorem tay : Statement .tay := intro _ _ rfl rfl rfl
theorem tya : Statement .tya := intro _ _ rfl rfl rfl
theorem tsx : Statement .tsx := intro _ _ rfl rfl rfl
theorem txs : Statement .txs := intro _ _ rfl rfl rfl
theorem clc : Statement .clc := intro _ _ rfl rfl rfl
theorem sec : Statement .sec := intro _ _ rfl rfl rfl
theorem cli : Statement .cli := intro _ _ rfl rfl rfl
theorem sei : Statement .sei := intro _ _ rfl rfl rfl
theorem cld : Statement .cld := intro _ _ rfl rfl rfl
theorem sed : Statement .sed := intro _ _ rfl rfl rfl
theorem clv : Statement .clv := intro _ _ rfl rfl rfl
theorem nop : Statement .nop := intro _ _ rfl rfl rfl
theorem illegal (op : Byte) : Statement (.illegal op) := ⟨fun _ h => (nomatch h), rfl⟩

end Sys2Proof.Laws.Shape
end

