-- ==== Sys2Proof/Laws/Run.lean ====
section
/-! SUPPORT. What the host's part of a run can do: either a state on the way is an end, or all actions are performed. -/

namespace Sys2Proof.Machine

/-- A state is no end exactly when the driver is Running elsewhere than at END_PC. -/
theorem runEnd_eq_none (endPc : Word) (s : State) : runEnd endPc s = none ↔ s.runState = .running ∧ s.pc ≠ endPc := by
  unfold runEnd
  cases s.runState <;> simp

/-- What the host's part gives: an end found at the state it names, or the state after all actions, which is no end. -/
theorem actUntilEnd_cases (endPc : Word) (l : List HostAction) (s : State) :
    (∃ e t, actUntilEnd endPc l s = .ended e t ∧ runEnd endPc t = some e) ∨
    (actUntilEnd endPc l s = .going (hostActions l s) ∧ runEnd endPc (hostActions l s) = none) := by
  induction l generalizing s with
  | nil =>
    cases h : runEnd endPc s with
    | some e => exact .inl ⟨e, s, by simp [actUntilEnd, h], h⟩
    | none => exact .inr ⟨by simp [actUntilEnd, h, hostActions], h⟩
  | cons a rest ih =>
    cases h : runEnd endPc s with
    | some e => exact .inl ⟨e, s, by simp [actUntilEnd, h], h⟩
    | none => simpa [actUntilEnd, h, hostActions] using ih (hostAction a s)

/-- The host's part keeps memory's canonical form. -/
theorem actUntilEnd_wf (endPc : Word) (l : List HostAction) (s : State) (h : s.mem.wf = true) :
    (actUntilEnd endPc l s).state.mem.wf = true := by
  induction l generalizing s with
  | nil => cases he : runEnd endPc s <;> simpa [actUntilEnd, he, Progress.state] using h
  | cons a rest ih =>
    cases he : runEnd endPc s with
    | some e => simpa [actUntilEnd, he, Progress.state] using h
    | none => simpa [actUntilEnd, he] using ih _ (hostAction_wf a s h)

theorem launch_start_wf (l : Launch) (h : l.memInit.wf = true) : l.start.mem.wf = true := hostActions_wf _ _ h

end Sys2Proof.Machine
end

