-- ==== Sys2Proof/Laws/Step.lean ====
section
/-! SUPPORT. What a step can do, said once: it fetches and executes while Running, and repeats its error while Halted. -/

namespace Sys2Proof.Machine

theorem step_running (s : State) (h : s.runState = .running) :
    step s = exec (fetchInstr s) (advancePc (fetchInstr s) s) := by
  unfold step; rw [h]

theorem step_halted (s : State) (h : s.runState = .halted) : step s = .fault (.illegalOpcode s.haltOpcode) := by
  unfold step; rw [h]; rfl

/-- Only a Running driver steps to a next state. -/
theorem step_next (s t : State) (h : step s = .next t) :
    s.runState = .running ∧ exec (fetchInstr s) (advancePc (fetchInstr s) s) = .next t := by
  cases hr : s.runState with
  | running => exact ⟨rfl, by rw [← step_running s hr]; exact h⟩
  | halted => rw [step_halted s hr] at h; cases h

/-- The instruction at PC is illegal exactly when its byte is, and it is then the illegal one of that byte. -/
theorem fetchInstr_illegal (s : State) (h : (fetchInstr s).operation = none) :
    s.readByte s.pc ∈ illegalBytes ∧ fetchInstr s = .illegal (s.readByte s.pc) := by
  have hm := (decodeOpcode_eq_none _).mp ((operation_decodeInstr _ _ _).mp h)
  exact ⟨hm, decodeInstr_illegal _ _ _ hm⟩

end Sys2Proof.Machine
end

