-- ==== Sys2Proof/Tests/Slice0.lean ====
section
/-! SUPPORT. Small tests. Expected results come from the spec: the worked vectors of 95_test_vectors.md and the encodings of
30_encoding.md. The last part shows, for each statement that has hypotheses, inputs that meet them. -/

namespace Sys2Proof.Tests

open Sys2Proof Sys2Proof.Machine Sys2Proof.Spec

/-! ### Well-formedness -/

/-- 0x02 is illegal (30_encoding.md R92). -/
theorem test_wellFormed_illegal : WellFormed (.illegal 0x02#8) := by decide

/-- 0xA9 is LDA immediate, so `illegal` with it is ill formed. -/
theorem test_illFormed_illegal : ¬ WellFormed (.illegal 0xA9#8) := by decide

/-- There are 105 illegal bytes, all different (30_encoding.md R92). -/
theorem test_illegalBytes : illegalBytes.length = 105 ∧ illegalBytes.Nodup := by decide +kernel

/-! ### Decoding: every constructor by the bit fields of 30_encoding.md R85 to R90 -/

/-- Whether the bytes decode to the instruction, with nothing left over. -/
def decodesTo (x : List Byte × Instr) : Bool := decide ((decode x.1).toOption = some (x.2, []))

/-- ORA, AND, EOR and ADC are `aaa` = 000 to 011 of `cc` = 01, the mode is `bbb` (R85). -/
theorem test_decode_groupOne_low :
    List.all
   [([0b000_010_01#8, 0x34#8], .oraImm 0x34#8), ([0b000_001_01#8, 0x34#8], .oraZp 0x34#8),
    ([0b000_101_01#8, 0x34#8], .oraZpX 0x34#8), ([0b000_011_01#8, 0x34#8, 0x12#8], .oraAbs 0x1234#16),
    ([0b000_111_01#8, 0x34#8, 0x12#8], .oraAbsX 0x1234#16),
    ([0b000_110_01#8, 0x34#8, 0x12#8], .oraAbsY 0x1234#16), ([0b000_000_01#8, 0x34#8], .oraIzX 0x34#8),
    ([0b000_100_01#8, 0x34#8], .oraIzY 0x34#8), ([0b001_010_01#8, 0x34#8], .andImm 0x34#8),
    ([0b001_001_01#8, 0x34#8], .andZp 0x34#8), ([0b001_101_01#8, 0x34#8], .andZpX 0x34#8),
    ([0b001_011_01#8, 0x34#8, 0x12#8], .andAbs 0x1234#16),
    ([0b001_111_01#8, 0x34#8, 0x12#8], .andAbsX 0x1234#16),
    ([0b001_110_01#8, 0x34#8, 0x12#8], .andAbsY 0x1234#16), ([0b001_000_01#8, 0x34#8], .andIzX 0x34#8),
    ([0b001_100_01#8, 0x34#8], .andIzY 0x34#8), ([0b010_010_01#8, 0x34#8], .eorImm 0x34#8),
    ([0b010_001_01#8, 0x34#8], .eorZp 0x34#8), ([0b010_101_01#8, 0x34#8], .eorZpX 0x34#8),
    ([0b010_011_01#8, 0x34#8, 0x12#8], .eorAbs 0x1234#16),
    ([0b010_111_01#8, 0x34#8, 0x12#8], .eorAbsX 0x1234#16),
    ([0b010_110_01#8, 0x34#8, 0x12#8], .eorAbsY 0x1234#16), ([0b010_000_01#8, 0x34#8], .eorIzX 0x34#8),
    ([0b010_100_01#8, 0x34#8], .eorIzY 0x34#8), ([0b011_010_01#8, 0x34#8], .adcImm 0x34#8),
    ([0b011_001_01#8, 0x34#8], .adcZp 0x34#8), ([0b011_101_01#8, 0x34#8], .adcZpX 0x34#8),
    ([0b011_011_01#8, 0x34#8, 0x12#8], .adcAbs 0x1234#16),
    ([0b011_111_01#8, 0x34#8, 0x12#8], .adcAbsX 0x1234#16),
    ([0b011_110_01#8, 0x34#8, 0x12#8], .adcAbsY 0x1234#16), ([0b011_000_01#8, 0x34#8], .adcIzX 0x34#8),
    ([0b011_100_01#8, 0x34#8], .adcIzY 0x34#8)] decodesTo = true := by decide +kernel

/-- STA, LDA, CMP and SBC are `aaa` = 100 to 111 of `cc` = 01 (R85). -/
theorem test_decode_groupOne_high :
    List.all
   [([0b100_001_01#8, 0x34#8], .staZp 0x34#8), ([0b100_101_01#8, 0x34#8], .staZpX 0x34#8),
    ([0b100_011_01#8, 0x34#8, 0x12#8], .staAbs 0x1234#16),
    ([0b100_111_01#8, 0x34#8, 0x12#8], .staAbsX 0x1234#16),
    ([0b100_110_01#8, 0x34#8, 0x12#8], .staAbsY 0x1234#16), ([0b100_000_01#8, 0x34#8], .staIzX 0x34#8),
    ([0b100_100_01#8, 0x34#8], .staIzY 0x34#8), ([0b101_010_01#8, 0x34#8], .ldaImm 0x34#8),
    ([0b101_001_01#8, 0x34#8], .ldaZp 0x34#8), ([0b101_101_01#8, 0x34#8], .ldaZpX 0x34#8),
    ([0b101_011_01#8, 0x34#8, 0x12#8], .ldaAbs 0x1234#16),
    ([0b101_111_01#8, 0x34#8, 0x12#8], .ldaAbsX 0x1234#16),
    ([0b101_110_01#8, 0x34#8, 0x12#8], .ldaAbsY 0x1234#16), ([0b101_000_01#8, 0x34#8], .ldaIzX 0x34#8),
    ([0b101_100_01#8, 0x34#8], .ldaIzY 0x34#8), ([0b110_010_01#8, 0x34#8], .cmpImm 0x34#8),
    ([0b110_001_01#8, 0x34#8], .cmpZp 0x34#8), ([0b110_101_01#8, 0x34#8], .cmpZpX 0x34#8),
    ([0b110_011_01#8, 0x34#8, 0x12#8], .cmpAbs 0x1234#16),
    ([0b110_111_01#8, 0x34#8, 0x12#8], .cmpAbsX 0x1234#16),
    ([0b110_110_01#8, 0x34#8, 0x12#8], .cmpAbsY 0x1234#16), ([0b110_000_01#8, 0x34#8], .cmpIzX 0x34#8),
    ([0b110_100_01#8, 0x34#8], .cmpIzY 0x34#8), ([0b111_010_01#8, 0x34#8], .sbcImm 0x34#8),
    ([0b111_001_01#8, 0x34#8], .sbcZp 0x34#8), ([0b111_101_01#8, 0x34#8], .sbcZpX 0x34#8),
    ([0b111_011_01#8, 0x34#8, 0x12#8], .sbcAbs 0x1234#16),
    ([0b111_111_01#8, 0x34#8, 0x12#8], .sbcAbsX 0x1234#16),
    ([0b111_110_01#8, 0x34#8, 0x12#8], .sbcAbsY 0x1234#16), ([0b111_000_01#8, 0x34#8], .sbcIzX 0x34#8),
    ([0b111_100_01#8, 0x34#8], .sbcIzY 0x34#8)] decodesTo = true := by decide +kernel

/-- ASL, ROL, LSR, ROR, STX, LDX, DEC and INC are `cc` = 10; STX and LDX index with Y (R86). -/
theorem test_decode_groupTwo :
    List.all
   [([0b000_010_10#8], .aslAcc), ([0b000_001_10#8, 0x34#8], .aslZp 0x34#8),
    ([0b000_101_10#8, 0x34#8], .aslZpX 0x34#8), ([0b000_011_10#8, 0x34#8, 0x12#8], .aslAbs 0x1234#16),
    ([0b000_111_10#8, 0x34#8, 0x12#8], .aslAbsX 0x1234#16), ([0b001_010_10#8], .rolAcc),
    ([0b001_001_10#8, 0x34#8], .rolZp 0x34#8), ([0b001_101_10#8, 0x34#8], .rolZpX 0x34#8),
    ([0b001_011_10#8, 0x34#8, 0x12#8], .rolAbs 0x1234#16),
    ([0b001_111_10#8, 0x34#8, 0x12#8], .rolAbsX 0x1234#16), ([0b010_010_10#8], .lsrAcc),
    ([0b010_001_10#8, 0x34#8], .lsrZp 0x34#8), ([0b010_101_10#8, 0x34#8], .lsrZpX 0x34#8),
    ([0b010_011_10#8, 0x34#8, 0x12#8], .lsrAbs 0x1234#16),
    ([0b010_111_10#8, 0x34#8, 0x12#8], .lsrAbsX 0x1234#16), ([0b011_010_10#8], .rorAcc),
    ([0b011_001_10#8, 0x34#8], .rorZp 0x34#8), ([0b011_101_10#8, 0x34#8], .rorZpX 0x34#8),
    ([0b011_011_10#8, 0x34#8, 0x12#8], .rorAbs 0x1234#16),
    ([0b011_111_10#8, 0x34#8, 0x12#8], .rorAbsX 0x1234#16), ([0b100_001_10#8, 0x34#8], .stxZp 0x34#8),
    ([0b100_101_10#8, 0x34#8], .stxZpY 0x34#8), ([0b100_011_10#8, 0x34#8, 0x12#8], .stxAbs 0x1234#16),
    ([0b101_000_10#8, 0x34#8], .ldxImm 0x34#8), ([0b101_001_10#8, 0x34#8], .ldxZp 0x34#8),
    ([0b101_101_10#8, 0x34#8], .ldxZpY 0x34#8), ([0b101_011_10#8, 0x34#8, 0x12#8], .ldxAbs 0x1234#16),
    ([0b101_111_10#8, 0x34#8, 0x12#8], .ldxAbsY 0x1234#16), ([0b110_001_10#8, 0x34#8], .decZp 0x34#8),
    ([0b110_101_10#8, 0x34#8], .decZpX 0x34#8), ([0b110_011_10#8, 0x34#8, 0x12#8], .decAbs 0x1234#16),
    ([0b110_111_10#8, 0x34#8, 0x12#8], .decAbsX 0x1234#16), ([0b111_001_10#8, 0x34#8], .incZp 0x34#8),
    ([0b111_101_10#8, 0x34#8], .incZpX 0x34#8), ([0b111_011_10#8, 0x34#8, 0x12#8], .incAbs 0x1234#16),
    ([0b111_111_10#8, 0x34#8, 0x12#8], .incAbsX 0x1234#16)] decodesTo = true := by decide +kernel

/-- BIT, JMP, STY, LDY, CPY and CPX are `cc` = 00; JMP is `aaa` = 010 and 011 with `bbb` = 011 (R87). -/
theorem test_decode_groupThree :
    List.all
   [([0b001_001_00#8, 0x34#8], .bitZp 0x34#8), ([0b001_011_00#8, 0x34#8, 0x12#8], .bitAbs 0x1234#16),
    ([0b010_011_00#8, 0x34#8, 0x12#8], .jmpAbs 0x1234#16),
    ([0b011_011_00#8, 0x34#8, 0x12#8], .jmpInd 0x1234#16), ([0b100_001_00#8, 0x34#8], .styZp 0x34#8),
    ([0b100_101_00#8, 0x34#8], .styZpX 0x34#8), ([0b100_011_00#8, 0x34#8, 0x12#8], .styAbs 0x1234#16),
    ([0b101_000_00#8, 0x34#8], .ldyImm 0x34#8), ([0b101_001_00#8, 0x34#8], .ldyZp 0x34#8),
    ([0b101_101_00#8, 0x34#8], .ldyZpX 0x34#8), ([0b101_011_00#8, 0x34#8, 0x12#8], .ldyAbs 0x1234#16),
    ([0b101_111_00#8, 0x34#8, 0x12#8], .ldyAbsX 0x1234#16), ([0b110_000_00#8, 0x34#8], .cpyImm 0x34#8),
    ([0b110_001_00#8, 0x34#8], .cpyZp 0x34#8), ([0b110_011_00#8, 0x34#8, 0x12#8], .cpyAbs 0x1234#16),
    ([0b111_000_00#8, 0x34#8], .cpxImm 0x34#8), ([0b111_001_00#8, 0x34#8], .cpxZp 0x34#8),
    ([0b111_011_00#8, 0x34#8, 0x12#8], .cpxAbs 0x1234#16)] decodesTo = true := by decide +kernel

/-- The branches are `xxy10000`: `xx` selects N, V, C or Z and `y` the value it must have (R88). -/
theorem test_decode_branches :
    List.all
   [([0b00_0_10000#8, 0x34#8], .bpl 0x34#8), ([0b00_1_10000#8, 0x34#8], .bmi 0x34#8),
    ([0b01_0_10000#8, 0x34#8], .bvc 0x34#8), ([0b01_1_10000#8, 0x34#8], .bvs 0x34#8),
    ([0b10_0_10000#8, 0x34#8], .bcc 0x34#8), ([0b10_1_10000#8, 0x34#8], .bcs 0x34#8),
    ([0b11_0_10000#8, 0x34#8], .bne 0x34#8), ([0b11_1_10000#8, 0x34#8], .beq 0x34#8)] decodesTo = true := by decide +kernel

/-- BRK, JSR, RTI and RTS (R89). -/
theorem test_decode_interrupt :
    List.all
   [([0x00#8], .brk), ([0x20#8, 0x34#8, 0x12#8], .jsr 0x1234#16), ([0x40#8], .rti), ([0x60#8], .rts)] decodesTo = true := by decide +kernel

/-- The 22 other single-byte opcodes (R90). -/
theorem test_decode_singleByte :
    List.all
   [([0xE8#8], .inx), ([0xC8#8], .iny), ([0xCA#8], .dex), ([0x88#8], .dey), ([0x48#8], .pha), ([0x68#8], .pla),
    ([0x08#8], .php), ([0x28#8], .plp), ([0xAA#8], .tax), ([0x8A#8], .txa), ([0xA8#8], .tay), ([0x98#8], .tya),
    ([0xBA#8], .tsx), ([0x9A#8], .txs), ([0x18#8], .clc), ([0x38#8], .sec), ([0x58#8], .cli), ([0x78#8], .sei),
    ([0xD8#8], .cld), ([0xF8#8], .sed), ([0xB8#8], .clv), ([0xEA#8], .nop)] decodesTo = true := by decide +kernel

/-- An illegal byte decodes alone; the bytes after it stay (R92). -/
theorem test_decode_illegal : (decode [0x04#8, 0x10#8]).toOption = some (.illegal 0x04#8, [0x10#8]) := by decide

/-- A truncated instruction is rejected. -/
theorem test_decode_truncated : (decode [0x4C#8, 0x34#8]).toOption = none := by decide

/-- The table word of `LDA $1234`: 24 bits, the opcode lowest. -/
theorem test_tableWord : decodeTableWord 24 0x1234AD = some (.ldaAbs 0x1234#16) := by decide

/-! ### Steps: the vectors of 95_test_vectors.md

A vector gives the registers before, the bytes of memory that are not 00, the registers after and the bytes written. -/

/-- A Running state with these registers (P as a byte) and these bytes of memory. -/
def start (pc : Word) (a x y s p : Byte) (m : List (Nat × Byte)) : State :=
  { a := a, x := x, y := y, s := s, pc := pc, p := flagsOfByte p, runState := .running, haltOpcode := 0x00#8
    mem := m.foldl (fun m e => memWrite m e.1 e.2) [] }

/-- A Halted state (the byte recorded first). -/
def halted (op : Byte) (s : State) : State := { s with runState := .halted, haltOpcode := op }

/-- The registers and P that a host reads. -/
def regsOf (s : State) : Word × Byte × Byte × Byte × Byte × Byte := (s.pc, s.a, s.x, s.y, s.s, s.readP)

/-- Whether a step gives these registers (PC, A, X, Y, S, P), exactly these writes on the bus, and this run state. -/
def goes (s : State) (regs : Word × Byte × Byte × Byte × Byte × Byte) (writes : List BusAccess)
    (run : RunState := .running) : Bool :=
  match step s with
  | .next t =>
    decide (regsOf t = regs) && decide (t.mem = applyAccesses writes s.mem) && decide (t.runState = run) &&
      decide ((stepAccesses s).filter (fun c => match c with | .write _ _ => true | .read _ => false) = writes)
  | _ => false

/-- AD1: `LDA $FF,X` (B5 FF) (R127). -/
theorem test_AD1 :
    goes (start 0x0600#16 0x00#8 0x02#8 0x00#8 0xFF#8 0x20#8 [(0x0600, 0xB5#8), (0x0601, 0xFF#8), (0x0001, 0x77#8)])
      (0x0602#16, 0x77#8, 0x02#8, 0x00#8, 0xFF#8, 0x20#8) [] = true := by decide

/-- AD2: `LDX $F0,Y` (B6 F0) (R127). -/
theorem test_AD2 :
    goes (start 0x0600#16 0x00#8 0x00#8 0x20#8 0xFF#8 0x20#8 [(0x0600, 0xB6#8), (0x0601, 0xF0#8), (0x0010, 0x55#8)])
      (0x0602#16, 0x00#8, 0x55#8, 0x20#8, 0xFF#8, 0x20#8) [] = true := by decide

/-- AD3: `LDA $12F0,X` (BD F0 12) (R128). -/
theorem test_AD3 :
    goes (start 0x0600#16 0x00#8 0x20#8 0x00#8 0xFF#8 0x20#8
        [(0x0600, 0xBD#8), (0x0601, 0xF0#8), (0x0602, 0x12#8), (0x1310, 0x33#8)])
      (0x0603#16, 0x33#8, 0x20#8, 0x00#8, 0xFF#8, 0x20#8) [] = true := by decide

/-- AD4: `LDA $FFFF,X` (BD FF FF) (R128). -/
theorem test_AD4 :
    goes (start 0x0600#16 0x00#8 0x01#8 0x00#8 0xFF#8 0x20#8
        [(0x0600, 0xBD#8), (0x0601, 0xFF#8), (0x0602, 0xFF#8), (0x0000, 0x44#8)])
      (0x0603#16, 0x44#8, 0x01#8, 0x00#8, 0xFF#8, 0x20#8) [] = true := by decide

/-- AD5: `LDA $FFF0,Y` (B9 F0 FF) (R128). -/
theorem test_AD5 :
    goes (start 0x0600#16 0x00#8 0x00#8 0x20#8 0xFF#8 0x20#8
        [(0x0600, 0xB9#8), (0x0601, 0xF0#8), (0x0602, 0xFF#8), (0x0010, 0x66#8)])
      (0x0603#16, 0x66#8, 0x00#8, 0x20#8, 0xFF#8, 0x20#8) [] = true := by decide

/-- AD8: `LDA ($FE,X)` (A1 FE) (R129, R130). -/
theorem test_AD8 :
    goes (start 0x0600#16 0x00#8 0x01#8 0x00#8 0xFF#8 0x20#8
        [(0x0600, 0xA1#8), (0x0601, 0xFE#8), (0x0000, 0x12#8), (0x00FF, 0x34#8), (0x0100, 0x56#8), (0x1234, 0xAB#8)])
      (0x0602#16, 0xAB#8, 0x01#8, 0x00#8, 0xFF#8, 0xA0#8) [] = true := by decide

/-- AD10: `LDA ($86),Y` (B1 86) (R131). -/
theorem test_AD10 :
    goes (start 0x0600#16 0x00#8 0x00#8 0x20#8 0xFF#8 0x20#8
        [(0x0600, 0xB1#8), (0x0601, 0x86#8), (0x0086, 0xF0#8), (0x0087, 0x40#8), (0x4110, 0xA5#8)])
      (0x0602#16, 0xA5#8, 0x00#8, 0x20#8, 0xFF#8, 0xA0#8) [] = true := by decide

/-- AD11: `LDA ($FF),Y` (B1 FF) (R130, R131). -/
theorem test_AD11 :
    goes (start 0x0600#16 0x00#8 0x00#8 0x00#8 0xFF#8 0x20#8
        [(0x0600, 0xB1#8), (0x0601, 0xFF#8), (0x0000, 0x05#8), (0x00FF, 0x00#8), (0x0100, 0x07#8), (0x0500, 0x81#8)])
      (0x0602#16, 0x81#8, 0x00#8, 0x00#8, 0xFF#8, 0xA0#8) [] = true := by decide

/-- AD13: `JMP ($0120)` (6C 20 01) (R132). -/
theorem test_AD13 :
    goes (start 0x0600#16 0x00#8 0x00#8 0x00#8 0xFF#8 0x20#8
        [(0x0600, 0x6C#8), (0x0601, 0x20#8), (0x0602, 0x01#8), (0x0120, 0xFC#8), (0x0121, 0xBA#8)])
      (0xBAFC#16, 0x00#8, 0x00#8, 0x00#8, 0xFF#8, 0x20#8) [] = true := by decide

/-- AD14: `JMP ($02FF)` (6C FF 02) (R132). -/
theorem test_AD14 :
    goes (start 0x0600#16 0x00#8 0x00#8 0x00#8 0xFF#8 0x20#8
        [(0x0600, 0x6C#8), (0x0601, 0xFF#8), (0x0602, 0x02#8), (0x0200, 0x80#8), (0x02FF, 0x00#8), (0x0300, 0x90#8)])
      (0x8000#16, 0x00#8, 0x00#8, 0x00#8, 0xFF#8, 0x20#8) [] = true := by decide

/-- AD15: `LDA #$00` (A9 00) (R124). -/
theorem test_AD15 :
    goes (start 0x0600#16 0x55#8 0x00#8 0x00#8 0xFF#8 0x20#8 [(0x0600, 0xA9#8), (0x0601, 0x00#8)])
      (0x0602#16, 0x00#8, 0x00#8, 0x00#8, 0xFF#8, 0x22#8) [] = true := by decide

/-- AD16: `LDA $0010` (AD 10 00) (R126). -/
theorem test_AD16 :
    goes (start 0x0600#16 0x00#8 0x00#8 0x00#8 0xFF#8 0x20#8
        [(0x0600, 0xAD#8), (0x0601, 0x10#8), (0x0602, 0x00#8), (0x0010, 0x01#8)])
      (0x0603#16, 0x01#8, 0x00#8, 0x00#8, 0xFF#8, 0x20#8) [] = true := by decide

/-- AD17: `LDA $10` (A5 10) (R125). -/
theorem test_AD17 :
    goes (start 0x0600#16 0x00#8 0x00#8 0x00#8 0xFF#8 0x20#8 [(0x0600, 0xA5#8), (0x0601, 0x10#8), (0x0010, 0xFF#8)])
      (0x0602#16, 0xFF#8, 0x00#8, 0x00#8, 0xFF#8, 0xA0#8) [] = true := by decide

/-- AL3: `ADC #$80` (69 80) (R150). -/
theorem test_AL3 :
    goes (start 0x0600#16 0x80#8 0x00#8 0x00#8 0xFF#8 0x20#8 [(0x0600, 0x69#8), (0x0601, 0x80#8)])
      (0x0602#16, 0x00#8, 0x00#8, 0x00#8, 0xFF#8, 0x63#8) [] = true := by decide

/-- AL5: `ADC #$00` (69 00) (R150). -/
theorem test_AL5 :
    goes (start 0x0600#16 0xFF#8 0x00#8 0x00#8 0xFF#8 0x21#8 [(0x0600, 0x69#8), (0x0601, 0x00#8)])
      (0x0602#16, 0x00#8, 0x00#8, 0x00#8, 0xFF#8, 0x23#8) [] = true := by decide

/-- AL8: `SBC #$01` (E9 01) (R151). -/
theorem test_AL8 :
    goes (start 0x0600#16 0x80#8 0x00#8 0x00#8 0xFF#8 0x21#8 [(0x0600, 0xE9#8), (0x0601, 0x01#8)])
      (0x0602#16, 0x7F#8, 0x00#8, 0x00#8, 0xFF#8, 0x61#8) [] = true := by decide

/-- AL11: `SBC #$05 (C = 0)` (E9 05) (R151). -/
theorem test_AL11 :
    goes (start 0x0600#16 0x10#8 0x00#8 0x00#8 0xFF#8 0x20#8 [(0x0600, 0xE9#8), (0x0601, 0x05#8)])
      (0x0602#16, 0x0A#8, 0x00#8, 0x00#8, 0xFF#8, 0x21#8) [] = true := by decide

/-- AL12: `AND #$3C` (29 3C) (R152). -/
theorem test_AL12 :
    goes (start 0x0600#16 0xF0#8 0x00#8 0x00#8 0xFF#8 0x20#8 [(0x0600, 0x29#8), (0x0601, 0x3C#8)])
      (0x0602#16, 0x30#8, 0x00#8, 0x00#8, 0xFF#8, 0x20#8) [] = true := by decide

/-- AL13: `AND #$00` (29 00) (R152). -/
theorem test_AL13 :
    goes (start 0x0600#16 0xFF#8 0x00#8 0x00#8 0xFF#8 0x61#8 [(0x0600, 0x29#8), (0x0601, 0x00#8)])
      (0x0602#16, 0x00#8, 0x00#8, 0x00#8, 0xFF#8, 0x63#8) [] = true := by decide

/-- AL14: `ORA #$80` (09 80) (R153). -/
theorem test_AL14 :
    goes (start 0x0600#16 0x0F#8 0x00#8 0x00#8 0xFF#8 0x20#8 [(0x0600, 0x09#8), (0x0601, 0x80#8)])
      (0x0602#16, 0x8F#8, 0x00#8, 0x00#8, 0xFF#8, 0xA0#8) [] = true := by decide

/-- AL15: `EOR #$FF` (49 FF) (R154). -/
theorem test_AL15 :
    goes (start 0x0600#16 0xFF#8 0x00#8 0x00#8 0xFF#8 0x20#8 [(0x0600, 0x49#8), (0x0601, 0xFF#8)])
      (0x0602#16, 0x00#8, 0x00#8, 0x00#8, 0xFF#8, 0x22#8) [] = true := by decide

/-- AL16: `ASL A` (0A) (R155). -/
theorem test_AL16 :
    goes (start 0x0600#16 0x80#8 0x00#8 0x00#8 0xFF#8 0x20#8 [(0x0600, 0x0A#8)])
      (0x0601#16, 0x00#8, 0x00#8, 0x00#8, 0xFF#8, 0x23#8) [] = true := by decide

/-- AL17: `ASL $10` (06 10) (R155, R160). -/
theorem test_AL17 :
    goes (start 0x0600#16 0x00#8 0x00#8 0x00#8 0xFF#8 0x20#8 [(0x0600, 0x06#8), (0x0601, 0x10#8), (0x0010, 0x41#8)])
      (0x0602#16, 0x00#8, 0x00#8, 0x00#8, 0xFF#8, 0xA0#8) [.write 0x0010#16 0x82#8] = true := by decide

/-- AL18: `LSR A` (4A) (R156). -/
theorem test_AL18 :
    goes (start 0x0600#16 0x01#8 0x00#8 0x00#8 0xFF#8 0x20#8 [(0x0600, 0x4A#8)])
      (0x0601#16, 0x00#8, 0x00#8, 0x00#8, 0xFF#8, 0x23#8) [] = true := by decide

/-- AL19: `LSR $10` (46 10) (R156, R160). -/
theorem test_AL19 :
    goes (start 0x0600#16 0x00#8 0x00#8 0x00#8 0xFF#8 0xA0#8 [(0x0600, 0x46#8), (0x0601, 0x10#8), (0x0010, 0x03#8)])
      (0x0602#16, 0x00#8, 0x00#8, 0x00#8, 0xFF#8, 0x21#8) [.write 0x0010#16 0x01#8] = true := by decide

/-- AL20: `ROL A` (2A) (R157). -/
theorem test_AL20 :
    goes (start 0x0600#16 0x80#8 0x00#8 0x00#8 0xFF#8 0x20#8 [(0x0600, 0x2A#8)])
      (0x0601#16, 0x00#8, 0x00#8, 0x00#8, 0xFF#8, 0x23#8) [] = true := by decide

/-- AL21: `ROL A` (2A) (R157). -/
theorem test_AL21 :
    goes (start 0x0600#16 0x40#8 0x00#8 0x00#8 0xFF#8 0x21#8 [(0x0600, 0x2A#8)])
      (0x0601#16, 0x81#8, 0x00#8, 0x00#8, 0xFF#8, 0xA0#8) [] = true := by decide

/-- AL22: `ROR A` (6A) (R158). -/
theorem test_AL22 :
    goes (start 0x0600#16 0x00#8 0x00#8 0x00#8 0xFF#8 0x21#8 [(0x0600, 0x6A#8)])
      (0x0601#16, 0x80#8, 0x00#8, 0x00#8, 0xFF#8, 0xA0#8) [] = true := by decide

/-- AL23: `ROR $1234` (6E 34 12) (R158, R160). -/
theorem test_AL23 :
    goes (start 0x0600#16 0x00#8 0x00#8 0x00#8 0xFF#8 0x20#8
        [(0x0600, 0x6E#8), (0x0601, 0x34#8), (0x0602, 0x12#8), (0x1234, 0x01#8)])
      (0x0603#16, 0x00#8, 0x00#8, 0x00#8, 0xFF#8, 0x23#8) [.write 0x1234#16 0x00#8] = true := by decide

/-- AL24: `BIT $10` (24 10) (R159). -/
theorem test_AL24 :
    goes (start 0x0600#16 0x01#8 0x00#8 0x00#8 0xFF#8 0x20#8 [(0x0600, 0x24#8), (0x0601, 0x10#8), (0x0010, 0xC0#8)])
      (0x0602#16, 0x01#8, 0x00#8, 0x00#8, 0xFF#8, 0xE2#8) [] = true := by decide

/-- AL25: `BIT $1234` (2C 34 12) (R159). -/
theorem test_AL25 :
    goes (start 0x0600#16 0xFF#8 0x00#8 0x00#8 0xFF#8 0xE0#8
        [(0x0600, 0x2C#8), (0x0601, 0x34#8), (0x0602, 0x12#8), (0x1234, 0x3F#8)])
      (0x0603#16, 0xFF#8, 0x00#8, 0x00#8, 0xFF#8, 0x20#8) [] = true := by decide

/-- LS2: `LDX #$00` (A2 00) (R181). -/
theorem test_LS2 :
    goes (start 0x0600#16 0x00#8 0x12#8 0x00#8 0xFF#8 0x20#8 [(0x0600, 0xA2#8), (0x0601, 0x00#8)])
      (0x0602#16, 0x00#8, 0x00#8, 0x00#8, 0xFF#8, 0x22#8) [] = true := by decide

/-- LS3: `LDY $10,X` (B4 10) (R182). -/
theorem test_LS3 :
    goes (start 0x0600#16 0x00#8 0xF5#8 0x00#8 0xFF#8 0x20#8 [(0x0600, 0xB4#8), (0x0601, 0x10#8), (0x0005, 0x7E#8)])
      (0x0602#16, 0x00#8, 0xF5#8, 0x7E#8, 0xFF#8, 0x20#8) [] = true := by decide

/-- LS4: `LDX $0200,Y` (BE 00 02) (R181). -/
theorem test_LS4 :
    goes (start 0x0600#16 0x00#8 0x00#8 0x03#8 0xFF#8 0x20#8
        [(0x0600, 0xBE#8), (0x0601, 0x00#8), (0x0602, 0x02#8), (0x0203, 0xC0#8)])
      (0x0603#16, 0x00#8, 0xC0#8, 0x03#8, 0xFF#8, 0xA0#8) [] = true := by decide

/-- LS5: `STA $0200` (8D 00 02) (R183). -/
theorem test_LS5 :
    goes (start 0x0600#16 0x00#8 0x00#8 0x00#8 0xFF#8 0xA0#8 [(0x0600, 0x8D#8), (0x0601, 0x00#8), (0x0602, 0x02#8)])
      (0x0603#16, 0x00#8, 0x00#8, 0x00#8, 0xFF#8, 0xA0#8) [.write 0x0200#16 0x00#8] = true := by decide

/-- LS6: `STA ($10),Y` (91 10) (R183). -/
theorem test_LS6 :
    goes (start 0x0600#16 0x42#8 0x00#8 0x05#8 0xFF#8 0x20#8
        [(0x0600, 0x91#8), (0x0601, 0x10#8), (0x0010, 0x00#8), (0x0011, 0x03#8)])
      (0x0602#16, 0x42#8, 0x00#8, 0x05#8, 0xFF#8, 0x20#8) [.write 0x0305#16 0x42#8] = true := by decide

/-- LS7: `STX $F0,Y` (96 F0) (R184). -/
theorem test_LS7 :
    goes (start 0x0600#16 0x00#8 0x99#8 0x20#8 0xFF#8 0x20#8 [(0x0600, 0x96#8), (0x0601, 0xF0#8)])
      (0x0602#16, 0x00#8, 0x99#8, 0x20#8, 0xFF#8, 0x20#8) [.write 0x0010#16 0x99#8] = true := by decide

/-- LS8: `STY $FF,X` (94 FF) (R185). -/
theorem test_LS8 :
    goes (start 0x0600#16 0x00#8 0x01#8 0x11#8 0xFF#8 0x20#8 [(0x0600, 0x94#8), (0x0601, 0xFF#8)])
      (0x0602#16, 0x00#8, 0x01#8, 0x11#8, 0xFF#8, 0x20#8) [.write 0x0000#16 0x11#8] = true := by decide

/-- ID1: `INC $10` (E6 10) (R200). -/
theorem test_ID1 :
    goes (start 0x0600#16 0x00#8 0x00#8 0x00#8 0xFF#8 0x20#8 [(0x0600, 0xE6#8), (0x0601, 0x10#8), (0x0010, 0xFF#8)])
      (0x0602#16, 0x00#8, 0x00#8, 0x00#8, 0xFF#8, 0x22#8) [.write 0x0010#16 0x00#8] = true := by decide

/-- ID2: `INC $0300,X` (FE 00 03) (R200). -/
theorem test_ID2 :
    goes (start 0x0600#16 0x00#8 0x02#8 0x00#8 0xFF#8 0x20#8
        [(0x0600, 0xFE#8), (0x0601, 0x00#8), (0x0602, 0x03#8), (0x0302, 0x7F#8)])
      (0x0603#16, 0x00#8, 0x02#8, 0x00#8, 0xFF#8, 0xA0#8) [.write 0x0302#16 0x80#8] = true := by decide

/-- ID3: `DEC $10` (C6 10) (R201). -/
theorem test_ID3 :
    goes (start 0x0600#16 0x00#8 0x00#8 0x00#8 0xFF#8 0x20#8 [(0x0600, 0xC6#8), (0x0601, 0x10#8), (0x0010, 0x00#8)])
      (0x0602#16, 0x00#8, 0x00#8, 0x00#8, 0xFF#8, 0xA0#8) [.write 0x0010#16 0xFF#8] = true := by decide

/-- ID4: `DEC $10,X` (D6 10) (R201). -/
theorem test_ID4 :
    goes (start 0x0600#16 0x00#8 0xF1#8 0x00#8 0xFF#8 0x20#8 [(0x0600, 0xD6#8), (0x0601, 0x10#8), (0x0001, 0x01#8)])
      (0x0602#16, 0x00#8, 0xF1#8, 0x00#8, 0xFF#8, 0x22#8) [.write 0x0001#16 0x00#8] = true := by decide

/-- ID5: `INX` (E8) (R202). -/
theorem test_ID5 :
    goes (start 0x0600#16 0x00#8 0xFF#8 0x00#8 0xFF#8 0x20#8 [(0x0600, 0xE8#8)])
      (0x0601#16, 0x00#8, 0x00#8, 0x00#8, 0xFF#8, 0x22#8) [] = true := by decide

/-- ID6: `INY` (C8) (R203). -/
theorem test_ID6 :
    goes (start 0x0600#16 0x00#8 0x00#8 0x7F#8 0xFF#8 0x20#8 [(0x0600, 0xC8#8)])
      (0x0601#16, 0x00#8, 0x00#8, 0x80#8, 0xFF#8, 0xA0#8) [] = true := by decide

/-- ID7: `DEX` (CA) (R204). -/
theorem test_ID7 :
    goes (start 0x0600#16 0x00#8 0x00#8 0x00#8 0xFF#8 0x20#8 [(0x0600, 0xCA#8)])
      (0x0601#16, 0x00#8, 0xFF#8, 0x00#8, 0xFF#8, 0xA0#8) [] = true := by decide

/-- ID8: `DEY` (88) (R205). -/
theorem test_ID8 :
    goes (start 0x0600#16 0x00#8 0x00#8 0x01#8 0xFF#8 0x21#8 [(0x0600, 0x88#8)])
      (0x0601#16, 0x00#8, 0x00#8, 0x00#8, 0xFF#8, 0x23#8) [] = true := by decide

/-- CP2: `CMP #$01` (C9 01) (R220). -/
theorem test_CP2 :
    goes (start 0x0600#16 0x00#8 0x00#8 0x00#8 0xFF#8 0x20#8 [(0x0600, 0xC9#8), (0x0601, 0x01#8)])
      (0x0602#16, 0x00#8, 0x00#8, 0x00#8, 0xFF#8, 0xA0#8) [] = true := by decide

/-- CP3: `CMP #$01` (C9 01) (R220). -/
theorem test_CP3 :
    goes (start 0x0600#16 0x80#8 0x00#8 0x00#8 0xFF#8 0x20#8 [(0x0600, 0xC9#8), (0x0601, 0x01#8)])
      (0x0602#16, 0x80#8, 0x00#8, 0x00#8, 0xFF#8, 0x21#8) [] = true := by decide

/-- CP5: `CPX #$05` (E0 05) (R221). -/
theorem test_CP5 :
    goes (start 0x0600#16 0x00#8 0x05#8 0x00#8 0xFF#8 0x20#8 [(0x0600, 0xE0#8), (0x0601, 0x05#8)])
      (0x0602#16, 0x00#8, 0x05#8, 0x00#8, 0xFF#8, 0x23#8) [] = true := by decide

/-- CP6: `CPX $10` (E4 10) (R221). -/
theorem test_CP6 :
    goes (start 0x0600#16 0x00#8 0x01#8 0x00#8 0xFF#8 0x20#8 [(0x0600, 0xE4#8), (0x0601, 0x10#8), (0x0010, 0xFF#8)])
      (0x0602#16, 0x00#8, 0x01#8, 0x00#8, 0xFF#8, 0x20#8) [] = true := by decide

/-- CP7: `CPY #$00` (C0 00) (R222). -/
theorem test_CP7 :
    goes (start 0x0600#16 0x00#8 0x00#8 0xFF#8 0xFF#8 0x20#8 [(0x0600, 0xC0#8), (0x0601, 0x00#8)])
      (0x0602#16, 0x00#8, 0x00#8, 0xFF#8, 0xFF#8, 0xA1#8) [] = true := by decide

/-- BR1: `BPL +5` (10 05) (R240). -/
theorem test_BR1 :
    goes (start 0x0600#16 0x00#8 0x00#8 0x00#8 0xFF#8 0x20#8 [(0x0600, 0x10#8), (0x0601, 0x05#8)])
      (0x0607#16, 0x00#8, 0x00#8, 0x00#8, 0xFF#8, 0x20#8) [] = true := by decide

/-- BR2: `BPL +5` (10 05) (R240). -/
theorem test_BR2 :
    goes (start 0x0600#16 0x00#8 0x00#8 0x00#8 0xFF#8 0xA0#8 [(0x0600, 0x10#8), (0x0601, 0x05#8)])
      (0x0602#16, 0x00#8, 0x00#8, 0x00#8, 0xFF#8, 0xA0#8) [] = true := by decide

/-- BR3: `BMI +5` (30 05) (R241). -/
theorem test_BR3 :
    goes (start 0x0600#16 0x00#8 0x00#8 0x00#8 0xFF#8 0x20#8 [(0x0600, 0x30#8), (0x0601, 0x05#8)])
      (0x0602#16, 0x00#8, 0x00#8, 0x00#8, 0xFF#8, 0x20#8) [] = true := by decide

/-- BR4: `BVC -128` (50 80) (R242). -/
theorem test_BR4 :
    goes (start 0x0600#16 0x00#8 0x00#8 0x00#8 0xFF#8 0x20#8 [(0x0600, 0x50#8), (0x0601, 0x80#8)])
      (0x0582#16, 0x00#8, 0x00#8, 0x00#8, 0xFF#8, 0x20#8) [] = true := by decide

/-- BR5: `BVS +127` (70 7F) (R243). -/
theorem test_BR5 :
    goes (start 0x0600#16 0x00#8 0x00#8 0x00#8 0xFF#8 0x60#8 [(0x0600, 0x70#8), (0x0601, 0x7F#8)])
      (0x0681#16, 0x00#8, 0x00#8, 0x00#8, 0xFF#8, 0x60#8) [] = true := by decide

/-- BR6: `BCC +127` (90 7F) (R244). -/
theorem test_BR6 :
    goes (start 0xFFF0#16 0x00#8 0x00#8 0x00#8 0xFF#8 0x20#8 [(0xFFF0, 0x90#8), (0xFFF1, 0x7F#8)])
      (0x0071#16, 0x00#8, 0x00#8, 0x00#8, 0xFF#8, 0x20#8) [] = true := by decide

/-- BR7: `BCS -128` (B0 80) (R245). -/
theorem test_BR7 :
    goes (start 0x0010#16 0x00#8 0x00#8 0x00#8 0xFF#8 0x21#8 [(0x0010, 0xB0#8), (0x0011, 0x80#8)])
      (0xFF92#16, 0x00#8, 0x00#8, 0x00#8, 0xFF#8, 0x21#8) [] = true := by decide

/-- BR8: `BNE -5` (D0 FB) (R246). -/
theorem test_BR8 :
    goes (start 0x0604#16 0x00#8 0x00#8 0x00#8 0xFF#8 0x20#8 [(0x0604, 0xD0#8), (0x0605, 0xFB#8)])
      (0x0601#16, 0x00#8, 0x00#8, 0x00#8, 0xFF#8, 0x20#8) [] = true := by decide

/-- BR9: `BEQ +0` (F0 00) (R247). -/
theorem test_BR9 :
    goes (start 0x0600#16 0x00#8 0x00#8 0x00#8 0xFF#8 0x22#8 [(0x0600, 0xF0#8), (0x0601, 0x00#8)])
      (0x0602#16, 0x00#8, 0x00#8, 0x00#8, 0xFF#8, 0x22#8) [] = true := by decide

/-- BR10: `BEQ -2` (F0 FE) (R247, R248). -/
theorem test_BR10 :
    goes (start 0x0600#16 0x00#8 0x00#8 0x00#8 0xFF#8 0x22#8 [(0x0600, 0xF0#8), (0x0601, 0xFE#8)])
      (0x0600#16, 0x00#8, 0x00#8, 0x00#8, 0xFF#8, 0x22#8) [] = true := by decide

/-- CT1: `JMP $1234` (4C 34 12) (R260). -/
theorem test_CT1 :
    goes (start 0x0600#16 0x00#8 0x00#8 0x00#8 0xFF#8 0x20#8 [(0x0600, 0x4C#8), (0x0601, 0x34#8), (0x0602, 0x12#8)])
      (0x1234#16, 0x00#8, 0x00#8, 0x00#8, 0xFF#8, 0x20#8) [] = true := by decide

/-- CT3: `JSR $1234` (20 34 12) (R262). -/
theorem test_CT3 :
    goes (start 0x0600#16 0x00#8 0x00#8 0x00#8 0xFF#8 0x20#8 [(0x0600, 0x20#8), (0x0601, 0x34#8), (0x0602, 0x12#8)])
      (0x1234#16, 0x00#8, 0x00#8, 0x00#8, 0xFD#8, 0x20#8) [.write 0x01FF#16 0x06#8, .write 0x01FE#16 0x02#8] = true := by decide

/-- CT4: `JSR $1234` (20 34 12) (R262). -/
theorem test_CT4 :
    goes (start 0x0600#16 0x00#8 0x00#8 0x00#8 0x00#8 0x20#8 [(0x0600, 0x20#8), (0x0601, 0x34#8), (0x0602, 0x12#8)])
      (0x1234#16, 0x00#8, 0x00#8, 0x00#8, 0xFE#8, 0x20#8) [.write 0x0100#16 0x06#8, .write 0x01FF#16 0x02#8] = true := by decide

/-- CT5: `RTS` (60) (R263). -/
theorem test_CT5 :
    goes (start 0x0600#16 0x00#8 0x00#8 0x00#8 0xFD#8 0x20#8 [(0x0600, 0x60#8), (0x01FE, 0x02#8), (0x01FF, 0x06#8)])
      (0x0603#16, 0x00#8, 0x00#8, 0x00#8, 0xFF#8, 0x20#8) [] = true := by decide

/-- CT6: `RTS` (60) (R263). -/
theorem test_CT6 :
    goes (start 0x0600#16 0x00#8 0x00#8 0x00#8 0xFD#8 0x20#8 [(0x0600, 0x60#8), (0x01FE, 0xFF#8), (0x01FF, 0xFF#8)])
      (0x0000#16, 0x00#8, 0x00#8, 0x00#8, 0xFF#8, 0x20#8) [] = true := by decide

/-- CT7: `BRK` (00) (R264). -/
theorem test_CT7 :
    goes (start 0x0600#16 0x00#8 0x00#8 0x00#8 0xFF#8 0x20#8 [(0x0600, 0x00#8), (0xFFFE, 0x00#8), (0xFFFF, 0x80#8)])
      (0x8000#16, 0x00#8, 0x00#8, 0x00#8, 0xFC#8, 0x24#8)
        [.write 0x01FF#16 0x06#8, .write 0x01FE#16 0x02#8, .write 0x01FD#16 0x30#8] = true := by decide

/-- CT8: `BRK` (00) (R264). -/
theorem test_CT8 :
    goes (start 0x0600#16 0x00#8 0x00#8 0x00#8 0xFF#8 0xA9#8 [(0x0600, 0x00#8), (0xFFFE, 0x00#8), (0xFFFF, 0x80#8)])
      (0x8000#16, 0x00#8, 0x00#8, 0x00#8, 0xFC#8, 0xAD#8)
        [.write 0x01FF#16 0x06#8, .write 0x01FE#16 0x02#8, .write 0x01FD#16 0xB9#8] = true := by decide

/-- CT9: `RTI` (40) (R265). -/
theorem test_CT9 :
    goes (start 0x0600#16 0x00#8 0x00#8 0x00#8 0xFC#8 0x20#8
        [(0x0600, 0x40#8), (0x01FD, 0x30#8), (0x01FE, 0x02#8), (0x01FF, 0x06#8)])
      (0x0602#16, 0x00#8, 0x00#8, 0x00#8, 0xFF#8, 0x30#8) [] = true := by decide

/-- CT10: `RTI` (40) (R265). -/
theorem test_CT10 :
    goes (start 0x0600#16 0x00#8 0x00#8 0x00#8 0xFC#8 0x24#8
        [(0x0600, 0x40#8), (0x01FD, 0xFF#8), (0x01FE, 0x34#8), (0x01FF, 0x12#8)])
      (0x1234#16, 0x00#8, 0x00#8, 0x00#8, 0xFF#8, 0xFF#8) [] = true := by decide

/-- SK1: `PHA` (48) (R284). -/
theorem test_SK1 :
    goes (start 0x0600#16 0x42#8 0x00#8 0x00#8 0xFF#8 0x20#8 [(0x0600, 0x48#8)])
      (0x0601#16, 0x42#8, 0x00#8, 0x00#8, 0xFE#8, 0x20#8) [.write 0x01FF#16 0x42#8] = true := by decide

/-- SK2: `PHA` (48) (R282, R284). -/
theorem test_SK2 :
    goes (start 0x0600#16 0x42#8 0x00#8 0x00#8 0x00#8 0x20#8 [(0x0600, 0x48#8)])
      (0x0601#16, 0x42#8, 0x00#8, 0x00#8, 0xFF#8, 0x20#8) [.write 0x0100#16 0x42#8] = true := by decide

/-- SK3: `PLA` (68) (R285). -/
theorem test_SK3 :
    goes (start 0x0600#16 0x00#8 0x00#8 0x00#8 0xFE#8 0x20#8 [(0x0600, 0x68#8), (0x01FF, 0x80#8)])
      (0x0601#16, 0x80#8, 0x00#8, 0x00#8, 0xFF#8, 0xA0#8) [] = true := by decide

/-- SK4: `PLA` (68) (R282, R285). -/
theorem test_SK4 :
    goes (start 0x0600#16 0x00#8 0x00#8 0x00#8 0xFF#8 0x20#8 [(0x0600, 0x68#8), (0x0100, 0x00#8)])
      (0x0601#16, 0x00#8, 0x00#8, 0x00#8, 0x00#8, 0x22#8) [] = true := by decide

/-- SK5: `PHP` (08) (R286). -/
theorem test_SK5 :
    goes (start 0x0600#16 0x00#8 0x00#8 0x00#8 0xFF#8 0x21#8 [(0x0600, 0x08#8)])
      (0x0601#16, 0x00#8, 0x00#8, 0x00#8, 0xFE#8, 0x21#8) [.write 0x01FF#16 0x31#8] = true := by decide

/-- SK6: `PLP` (28) (R287). -/
theorem test_SK6 :
    goes (start 0x0600#16 0x00#8 0x00#8 0x00#8 0xFE#8 0x20#8 [(0x0600, 0x28#8), (0x01FF, 0xC3#8)])
      (0x0601#16, 0x00#8, 0x00#8, 0x00#8, 0xFF#8, 0xE3#8) [] = true := by decide

/-- SK7: `PLP` (28) (R287). -/
theorem test_SK7 :
    goes (start 0x0600#16 0x00#8 0x00#8 0x00#8 0xFE#8 0x20#8 [(0x0600, 0x28#8), (0x01FF, 0x10#8)])
      (0x0601#16, 0x00#8, 0x00#8, 0x00#8, 0xFF#8, 0x30#8) [] = true := by decide

/-- TF1: `TAX` (AA) (R300). -/
theorem test_TF1 :
    goes (start 0x0600#16 0x80#8 0x00#8 0x00#8 0xFF#8 0x20#8 [(0x0600, 0xAA#8)])
      (0x0601#16, 0x80#8, 0x80#8, 0x00#8, 0xFF#8, 0xA0#8) [] = true := by decide

/-- TF2: `TXA` (8A) (R301). -/
theorem test_TF2 :
    goes (start 0x0600#16 0x55#8 0x00#8 0x00#8 0xFF#8 0x20#8 [(0x0600, 0x8A#8)])
      (0x0601#16, 0x00#8, 0x00#8, 0x00#8, 0xFF#8, 0x22#8) [] = true := by decide

/-- TF3: `TAY` (A8) (R302). -/
theorem test_TF3 :
    goes (start 0x0600#16 0x7F#8 0x00#8 0x00#8 0xFF#8 0xA2#8 [(0x0600, 0xA8#8)])
      (0x0601#16, 0x7F#8, 0x00#8, 0x7F#8, 0xFF#8, 0x20#8) [] = true := by decide

/-- TF4: `TYA` (98) (R303). -/
theorem test_TF4 :
    goes (start 0x0600#16 0x00#8 0x00#8 0xFF#8 0xFF#8 0x20#8 [(0x0600, 0x98#8)])
      (0x0601#16, 0xFF#8, 0x00#8, 0xFF#8, 0xFF#8, 0xA0#8) [] = true := by decide

/-- TF5: `TSX` (BA) (R304). -/
theorem test_TF5 :
    goes (start 0x0600#16 0x00#8 0x00#8 0x00#8 0x00#8 0x20#8 [(0x0600, 0xBA#8)])
      (0x0601#16, 0x00#8, 0x00#8, 0x00#8, 0x00#8, 0x22#8) [] = true := by decide

/-- TF6: `TSX` (BA) (R304). -/
theorem test_TF6 :
    goes (start 0x0600#16 0x00#8 0x00#8 0x00#8 0xFD#8 0x20#8 [(0x0600, 0xBA#8)])
      (0x0601#16, 0x00#8, 0xFD#8, 0x00#8, 0xFD#8, 0xA0#8) [] = true := by decide

/-- TF7: `TXS` (9A) (R305). -/
theorem test_TF7 :
    goes (start 0x0600#16 0x00#8 0x00#8 0x00#8 0xFF#8 0x20#8 [(0x0600, 0x9A#8)])
      (0x0601#16, 0x00#8, 0x00#8, 0x00#8, 0x00#8, 0x20#8) [] = true := by decide

/-- TF8: `CLC` (18) (R306). -/
theorem test_TF8 :
    goes (start 0x0600#16 0x00#8 0x00#8 0x00#8 0xFF#8 0xFF#8 [(0x0600, 0x18#8)])
      (0x0601#16, 0x00#8, 0x00#8, 0x00#8, 0xFF#8, 0xFE#8) [] = true := by decide

/-- TF9: `SEC` (38) (R307). -/
theorem test_TF9 :
    goes (start 0x0600#16 0x00#8 0x00#8 0x00#8 0xFF#8 0x20#8 [(0x0600, 0x38#8)])
      (0x0601#16, 0x00#8, 0x00#8, 0x00#8, 0xFF#8, 0x21#8) [] = true := by decide

/-- TF10: `CLI` (58) (R308). -/
theorem test_TF10 :
    goes (start 0x0600#16 0x00#8 0x00#8 0x00#8 0xFF#8 0x24#8 [(0x0600, 0x58#8)])
      (0x0601#16, 0x00#8, 0x00#8, 0x00#8, 0xFF#8, 0x20#8) [] = true := by decide

/-- TF11: `SEI` (78) (R309). -/
theorem test_TF11 :
    goes (start 0x0600#16 0x00#8 0x00#8 0x00#8 0xFF#8 0x20#8 [(0x0600, 0x78#8)])
      (0x0601#16, 0x00#8, 0x00#8, 0x00#8, 0xFF#8, 0x24#8) [] = true := by decide

/-- TF12: `CLD` (D8) (R310). -/
theorem test_TF12 :
    goes (start 0x0600#16 0x00#8 0x00#8 0x00#8 0xFF#8 0x28#8 [(0x0600, 0xD8#8)])
      (0x0601#16, 0x00#8, 0x00#8, 0x00#8, 0xFF#8, 0x20#8) [] = true := by decide

/-- TF13: `SED` (F8) (R311). -/
theorem test_TF13 :
    goes (start 0x0600#16 0x00#8 0x00#8 0x00#8 0xFF#8 0x20#8 [(0x0600, 0xF8#8)])
      (0x0601#16, 0x00#8, 0x00#8, 0x00#8, 0xFF#8, 0x28#8) [] = true := by decide

/-- TF14: `CLV` (B8) (R312). -/
theorem test_TF14 :
    goes (start 0x0600#16 0x00#8 0x00#8 0x00#8 0xFF#8 0x60#8 [(0x0600, 0xB8#8)])
      (0x0601#16, 0x00#8, 0x00#8, 0x00#8, 0xFF#8, 0x20#8) [] = true := by decide

/-- TF15: `NOP` (EA) (R313). -/
theorem test_TF15 :
    goes (start 0x0600#16 0x12#8 0x00#8 0x00#8 0xFF#8 0xFF#8 [(0x0600, 0xEA#8)])
      (0x0601#16, 0x12#8, 0x00#8, 0x00#8, 0xFF#8, 0xFF#8) [] = true := by decide

/-- IL1: `.byte $FF` (FF) (R360). -/
theorem test_IL1 :
    goes (start 0x0600#16 0x12#8 0x00#8 0x00#8 0xFF#8 0x20#8 [(0x0600, 0xFF#8)])
      (0x0600#16, 0x12#8, 0x00#8, 0x00#8, 0xFF#8, 0x20#8) [] .halted = true := by decide

/-- IL2: `.byte $89` (89 00) (R360). -/
theorem test_IL2 :
    goes (start 0x0600#16 0x00#8 0x00#8 0x00#8 0xFF#8 0x20#8 [(0x0600, 0x89#8), (0x0601, 0x00#8)])
      (0x0600#16, 0x00#8, 0x00#8, 0x00#8, 0xFF#8, 0x20#8) [] .halted = true := by decide
/-! ### Reset and host calls: 95_test_vectors.md HS1 to HS13 -/

/-- HS2: `step` while Halted is the error again (60_exceptions.md R361). -/
theorem test_HS2 : hostStep (halted 0xFF#8 (start 0x0600#16 0#8 0#8 0#8 0xFF#8 0x20#8 [(0x0600, 0xFF#8)])) =
    .next (halted 0xFF#8 (start 0x0600#16 0#8 0#8 0#8 0xFF#8 0x20#8 [(0x0600, 0xFF#8)]), some 0xFF#8) := by rfl

/-- HS3: a host write of PC leaves Halted (60_exceptions.md R362). -/
theorem test_HS3 : (hostSetPc 0x0601#16 0x55#8 (halted 0xFF#8 (start 0x0600#16 0#8 0#8 0#8 0xFF#8 0x20#8 []))).runState = .running := by
  decide

/-- A host write of P discards bit 5, which reads as 1, and stores bit 4 (10_state.md R26, R27). -/
theorem test_hostSetP : (hostSetP 0xD0#8 State.reset).readP = 0xF0#8 := by decide

/-- HS5: reset from S = 00 with the vector 0700 (70_reset_and_hazards.md R401). -/
theorem test_HS5 :
    regsOf (applyReset 0#8 (halted 0xFF#8
      (start 0x0600#16 0#8 0#8 0#8 0x00#8 0x20#8 [(0x0600, 0xFF#8), (0xFFFD, 0x07#8)]))) =
    (0x0700#16, 0#8, 0#8, 0#8, 0xFD#8, 0x24#8) := by decide

/-- HS5: reset makes two reads and no write. -/
theorem test_HS5_bus : actionAccesses (.reset 0#8) State.reset = [.read 0xFFFC#16, .read 0xFFFD#16] := by decide

/-- HS7: a masked IRQ is dropped (60_exceptions.md R365). -/
theorem test_HS7 : raiseIrq (start 0x0634#16 0#8 0#8 0#8 0xFF#8 0x24#8 [(0xFFFF, 0x90#8)]) =
    start 0x0634#16 0#8 0#8 0#8 0xFF#8 0x24#8 [(0xFFFF, 0x90#8)] := by decide

/-- HS8: an IRQ (60_exceptions.md R366). -/
theorem test_HS8 : raiseIrq (start 0x0634#16 0#8 0#8 0#8 0xFF#8 0x21#8 [(0xFFFF, 0x90#8)]) =
    start 0x9000#16 0#8 0#8 0#8 0xFC#8 0x25#8
      [(0x01FF, 0x06#8), (0x01FE, 0x34#8), (0x01FD, 0x21#8), (0xFFFF, 0x90#8)] := by decide

/-- HS8: the entry's three writes and two reads. -/
theorem test_HS8_bus :
    actionAccesses .raiseIrq (start 0x0634#16 0#8 0#8 0#8 0xFF#8 0x21#8 [(0xFFFF, 0x90#8)]) =
    [.write 0x01FF#16 0x06#8, .write 0x01FE#16 0x34#8, .write 0x01FD#16 0x21#8, .read 0xFFFE#16, .read 0xFFFF#16] := by
  decide

/-- HS9: RTI resumes the interrupted instruction (60_exceptions.md R370). -/
theorem test_HS9 :
    goes (start 0x9000#16 0#8 0#8 0#8 0xFC#8 0x25#8
        [(0x01FF, 0x06#8), (0x01FE, 0x34#8), (0x01FD, 0x21#8), (0x9000, 0x40#8)])
      (0x0634#16, 0#8, 0#8, 0#8, 0xFF#8, 0x21#8) [] = true := by decide

/-- HS10: an NMI is not masked by I (60_exceptions.md R367). -/
theorem test_HS10 : raiseNmi (start 0x0634#16 0#8 0#8 0#8 0xFF#8 0x24#8 [(0xFFFB, 0xA0#8)]) =
    start 0xA000#16 0#8 0#8 0#8 0xFC#8 0x24#8
      [(0x01FF, 0x06#8), (0x01FE, 0x34#8), (0x01FD, 0x24#8), (0xFFFB, 0xA0#8)] := by decide

/-- HS13: an IRQ raised after CLI is taken at once (48_transfer_flag.md R308). -/
theorem test_HS13 :
    (match step (start 0x0600#16 0#8 0#8 0#8 0xFF#8 0x24#8 [(0x0600, 0x58#8), (0xFFFF, 0x90#8)]) with
      | .next t => some (regsOf (raiseIrq t)) | _ => none) =
    some (0x9000#16, 0#8, 0#8, 0#8, 0xFC#8, 0x24#8) := by decide

/-- `State.reset` runs whatever memory holds at PC: with nothing listed, the BRK of byte 00 (46_control.md R264). -/
theorem test_reset_step : goes State.reset (0x0000#16, 0#8, 0#8, 0#8, 0xFA#8, 0x24#8)
    [.write 0x01FD#16 0x00#8, .write 0x01FC#16 0x02#8, .write 0x01FB#16 0x34#8] = true := by decide

/-- A word placed for the host's probe is the instruction the next step runs (log entry 7). -/
theorem test_withFetchWord : fetchInstr (State.reset.withFetchWord 16 0x34A9) = .ldaImm 0x34#8 := by decide

/-- A launch that starts at 0600 (an NOP) with END_PC = 0601, and what the host does before the first step. -/
def nopLaunch (first : List HostAction) : Launch :=
  { regs := zeroPowerOn, memInit := [(0x0600, 0xEA#8), (0x0601, 0xFF#8), (0xFFFD, 0x06#8)], unspecified := 0x55#8
    writes := [], schedule := [first], endPc := 0x0601#16 }

/-- How a run has ended, and its PC. -/
def endOf (o : Host.Outcome Progress Fault Refusal) : Option (RunEnd × Word) :=
  match o with
  | .next (.ended e s) => some (e, s.pc)
  | _ => none

/-- A normal end after one step (49_driver.md R339). -/
theorem test_run_normalEnd : endOf ((nopLaunch []).run 1) = some (.normalEnd, 0x0601#16) := by decide

/-- The run is not ended before that step. -/
theorem test_run_going : endOf ((nopLaunch []).run 0) = none := by decide

/-- A host write of PC past END_PC: the FF there (here at 0602) halts the driver, a fault end (49_driver.md R339). -/
theorem test_run_faultEnd :
    endOf ((nopLaunch [.writeByte 0x0602#16 0xFF#8, .setPc 0x0602#16 0#8]).run 3) = some (.faultEnd 0xFF#8, 0x0602#16) := by
  decide

/-- Two drivers over one memory: the second's NMI pushes to the shared memory and leaves the first alone (60_exceptions.md R384). -/
theorem test_system :
    (match systemCall 1 (.act .raiseNmi) (systemLaunch [(zeroPowerOn, 0#8), (zeroPowerOn, 0#8)] [(0xFFFB, 0xA0#8)]) with
      | .next (τ, _) => τ.cores.map (fun c => (c.pc, c.s)) | _ => []) =
    [(0x0000#16, 0xFD#8), (0xA000#16, 0xFA#8)] := by decide

/-! ### Inputs that meet the hypotheses of each statement -/

/-- A small state: A = 80, X = 02, Y = FF, S = 00, Z and C set, and byte 10 = FF. -/
def small : State := start 0x0600#16 0x80#8 0x02#8 0xFF#8 0x00#8 0x23#8 [(0x0010, 0xFF#8)]

/-- The small state with an illegal byte at PC. -/
def atIllegal (op : Byte) : State := small.writeByte 0x0600#16 op

/-- The small state, Halted at an illegal byte. -/
def frozen : State := halted 0xFF#8 (atIllegal 0xFF#8)

theorem witness_DecodeEncodeRoundTrip :
    WellFormed (.ldaAbs 0xFFFF#16) ∧ WellFormed (.illegal 0x02#8) ∧ WellFormed (.illegal 0xFF#8) := by decide

theorem witness_DecoderYieldsOnlyLegalPairs :
    decodeOpcode 0x69#8 = some (.adc, .immediate) ∧ decodeOpcode 0x02#8 = none := by decide

/-- A legal instruction at the top of memory, whose operand is at address 0, and an illegal byte. -/
theorem witness_StepRunsDecodedInstruction :
    (∃ s : State, s.pc = 0xFFFF#16 ∧ s.runState = .running ∧
      (decode [s.readByte s.pc, s.readByte (s.pc + 1#16), s.readByte (s.pc + 2#16)]).toOption =
        some (.ldaImm 0x07#8, [0x00#8])) ∧
    (∃ s : State, s.runState = .running ∧
      (decode [s.readByte s.pc, s.readByte (s.pc + 1#16), s.readByte (s.pc + 2#16)]).toOption =
        some (.illegal 0x02#8, [0x00#8, 0x00#8])) :=
  ⟨⟨start 0xFFFF#16 0#8 0#8 0#8 0#8 0#8 [(0xFFFF, 0xA9#8), (0x0000, 0x07#8)], by decide⟩,
   ⟨atIllegal 0x02#8, by decide⟩⟩

theorem witness_IllegalOpcodeHalts :
    ((atIllegal 0x02#8).runState = .running ∧ (atIllegal 0x02#8).readByte (atIllegal 0x02#8).pc ∈ illegalBytes) ∧
    ((atIllegal 0xFF#8).runState = .running ∧ (atIllegal 0xFF#8).readByte (atIllegal 0xFF#8).pc ∈ illegalBytes) := by
  decide

theorem witness_HaltedStepReturnsErrorAgain : frozen.runState = .halted := by decide

theorem witness_ExecutionIsTotal : (Instr.nop).operation.isSome = true ∧ (Instr.adcIzY 0xFF#8).operation.isSome = true := by
  decide

/-- Both results of a step: `Ok` on BRK, and the error on an illegal byte. -/
theorem witness_StepReturnsOkOrError :
    (∃ t, hostStep small = .next (t, none)) ∧
    ((atIllegal 0x02#8).runState = .running ∧ ∃ t, hostStep (atIllegal 0x02#8) = .next (t, some 0x02#8)) ∧
    (frozen.Inv ∧ ∃ t, hostStep frozen = .next (t, some 0xFF#8)) :=
  ⟨⟨_, rfl⟩, ⟨rfl, _, rfl⟩, ⟨by decide, by decide⟩, _, rfl⟩

theorem witness_ReadAfterWrite :
    small.mem.wf = true ∧ (0xFFFF#16 : Word) ≠ 0x0000#16 ∧
    (∃ s t : State, s.mem.wf = true ∧ t.mem.wf = true ∧ s ≠ t ∧ ∀ k, s.readByte k = t.readByte k) :=
  ⟨by decide, by decide, small, small.setA 0#8, by decide, by decide, by decide, fun _ => rfl⟩

theorem witness_WordAccessIsLittleEndian : (small.writeByte 0xFFFF#16 0x12#8).mem.wf = true := by decide

/-- Sums at and past the wrap: zero page (FE + 02), 16 bits (FFFE + 02 and FF01 + FF), and a branch target. -/
theorem witness_AddressArithmetic :
    resolveEa (.zpX 0xFE#8) small = some 0x0000#16 ∧ resolveEa (.zpX 0xFD#8) small = some 0x00FF#16 ∧
    resolveEa (.zpY 0x00#8) small = some 0x00FF#16 ∧ resolveEa (.zpY 0x01#8) small = some 0x0000#16 ∧
    resolveEa (.absX 0xFFFE#16) small = some 0x0000#16 ∧ resolveEa (.absY 0xFF01#16) small = some 0x0000#16 ∧
    resolveEa (.rel 0x80#8) small = some 0x0580#16 ∧ resolveEa (.rel 0x7F#8) small = some 0x067F#16 := by decide

theorem witness_AdcResult :
    Instr.adcImm 0x01#8 ∈ formsAdc 0x01#8 0#8 0#16 ∧ Instr.adcIzY 0x10#8 ∈ formsAdc 0#8 0x10#8 0#16 ∧
    (small.setFlag .d true).p.d = true ∧ small.p.d = false := by decide

theorem witness_AdcIsSignedAndUnsignedAddition : Instr.adcAbsX 0xFFFF#16 ∈ formsAdc 0#8 0#8 0xFFFF#16 := by decide

theorem witness_SbcResult :
    Instr.sbcImm 0x01#8 ∈ formsSbc 0x01#8 0#8 0#16 ∧ Instr.sbcIzY 0x10#8 ∈ formsSbc 0#8 0x10#8 0#16 ∧
    (small.setFlag .d true).p.d = true ∧ small.p.d = false := by decide

theorem witness_SbcIsSignedAndUnsignedSubtraction : Instr.sbcAbsX 0xFFFF#16 ∈ formsSbc 0#8 0#8 0xFFFF#16 := by decide

theorem witness_LogicResult :
    Instr.andImm 1#8 ∈ formsAnd 1#8 0#8 0#16 ∧ Instr.oraZp 1#8 ∈ formsOra 0#8 1#8 0#16 ∧
    Instr.eorIzX 1#8 ∈ formsEor 0#8 1#8 0#16 := by decide

theorem witness_AslResult : Instr.aslZp 1#8 ∈ formsAsl 1#8 0#16 ∧ Instr.aslAbsX 1#16 ∈ formsAsl 0#8 1#16 := by decide

theorem witness_LsrResult : Instr.lsrZp 1#8 ∈ formsLsr 1#8 0#16 ∧ Instr.lsrAbsX 1#16 ∈ formsLsr 0#8 1#16 := by decide

theorem witness_RolResult : Instr.rolZp 1#8 ∈ formsRol 1#8 0#16 ∧ Instr.rolAbsX 1#16 ∈ formsRol 0#8 1#16 := by decide

theorem witness_RorResult : Instr.rorZp 1#8 ∈ formsRor 1#8 0#16 ∧ Instr.rorAbsX 1#16 ∈ formsRor 0#8 1#16 := by decide

theorem witness_BitResult : Instr.bitZp 1#8 ∈ formsBit 1#8 0#16 ∧ Instr.bitAbs 1#16 ∈ formsBit 0#8 1#16 := by decide

theorem witness_LoadResult :
    Instr.ldaIzY 1#8 ∈ formsLda 0#8 1#8 0#16 ∧ Instr.ldxZpY 1#8 ∈ formsLdx 0#8 1#8 0#16 ∧
    Instr.ldyImm 1#8 ∈ formsLdy 1#8 0#8 0#16 := by decide

theorem witness_StoreResult :
    Instr.staIzX 1#8 ∈ formsSta 1#8 0#16 ∧ Instr.stxZpY 1#8 ∈ formsStx 1#8 0#16 ∧ Instr.styAbs 1#16 ∈ formsSty 0#8 1#16 := by
  decide

theorem witness_IncDecMemoryResult :
    Instr.incZp 0x10#8 ∈ formsInc 0x10#8 0#16 ∧ Instr.decAbsX 0xFFFF#16 ∈ formsDec 0#8 0xFFFF#16 := by decide

theorem witness_CompareResult :
    Instr.cmpIzY 1#8 ∈ formsCmp 0#8 1#8 0#16 ∧ Instr.cpxImm 1#8 ∈ formsCpx 1#8 0#8 0#16 ∧
    Instr.cpyAbs 1#16 ∈ formsCpy 0#8 0#8 1#16 := by decide

theorem witness_NopResult :
    (small.writeByte 0x0600#16 0xEA#8).runState = .running ∧ (small.writeByte 0x0600#16 0xEA#8).readByte 0x0600#16 = 0xEA#8 := by
  decide

/-- An operation outside each of the six lists. -/
theorem witness_FlagFrame :
    (∃ t, exec .nop small = .next t) ∧ ¬ opIn .nop (.plp :: .rti :: nzWriters) ∧
    ¬ opIn .nop [.adc, .sbc, .bit, .clv, .plp, .rti] ∧ ¬ opIn .nop [.plp, .rti] ∧ ¬ opIn .nop [.cld, .sed, .plp, .rti] ∧
    ¬ opIn .nop [.cli, .sei, .plp, .rti, .brk] ∧
    ¬ opIn .nop [.adc, .sbc, .asl, .lsr, .rol, .ror, .cmp, .cpx, .cpy, .clc, .sec, .plp, .rti] :=
  ⟨⟨_, rfl⟩, by simp [opIn, Instr.operation, nzWriters], by simp [opIn, Instr.operation], by simp [opIn, Instr.operation],
    by simp [opIn, Instr.operation], by simp [opIn, Instr.operation], by simp [opIn, Instr.operation]⟩

/-- A shift of memory, which writes no register, and CMP, outside each list. -/
theorem witness_RegisterFrame :
    (∃ t, exec (.aslZp 0x10#8) small = .next t) ∧
    ¬ (opIn (.aslZp 0x10#8) [.asl, .lsr, .rol, .ror] ∧ (Instr.aslZp 0x10#8).operand = .acc) ∧
    (∃ t, exec (.cmpImm 1#8) small = .next t) ∧
    ¬ opIn (.cmpImm 1#8) [.adc, .sbc, .and, .ora, .eor, .lda, .pla, .txa, .tya] ∧
    ¬ opIn (.cmpImm 1#8) [.ldx, .inx, .dex, .tax, .tsx] ∧ ¬ opIn (.cmpImm 1#8) [.ldy, .iny, .dey, .tay] ∧
    ¬ opIn (.cmpImm 1#8) [.pha, .pla, .php, .plp, .jsr, .rts, .brk, .rti, .txs] ∧
    ¬ opIn (.cmpImm 1#8) [.bpl, .bmi, .bvc, .bvs, .bcc, .bcs, .bne, .beq, .jmp, .jsr, .rts, .brk, .rti] ∧
    (Instr.cmpImm 1#8).operation.isSome = true :=
  ⟨⟨_, rfl⟩, by simp [Instr.operand], ⟨_, rfl⟩, by simp [opIn, Instr.operation], by simp [opIn, Instr.operation],
    by simp [opIn, Instr.operation], by simp [opIn, Instr.operation], by simp [opIn, Instr.operation], rfl⟩

/-- A store, a push at S = 00, and an instruction that stores nothing. -/
theorem witness_MemoryFrame :
    (∃ t, exec (.staAbs 0xFFFF#16) small = .next t) ∧ (0x0000#16 : Word) ∉ storedAddrs (.staAbs 0xFFFF#16) small ∧
    (∃ t, exec .brk small = .next t) ∧ storedAddrs .brk small = [0x0100#16, 0x01FF#16, 0x01FE#16] ∧
    (∃ t, exec (.aslAcc) small = .next t) ∧ storedAddrs .aslAcc small = [] :=
  ⟨⟨_, rfl⟩, by decide, ⟨_, rfl⟩, by decide, ⟨_, rfl⟩, by decide⟩

/-- `LDA ($FF,X)` with X = 02 (a pointer in zero page), and `INC $FFFF`, which reads and writes its address. -/
theorem witness_StepMemoryIsItsBusTrace :
    (∃ t, step small = .next t) ∧
    (∃ s t : State, s.mem.wf = true ∧ s.runState = .running ∧
      (decode [s.readByte s.pc, s.readByte (s.pc + 1#16), s.readByte (s.pc + 2#16)]).toOption =
        some (.ldaIzX 0xFF#8, [0x00#8]) ∧ (Instr.ldaIzX 0xFF#8).operation = some .lda ∧ step s = .next t) ∧
    (∃ s t : State, s.mem.wf = true ∧ s.runState = .running ∧
      (decode [s.readByte s.pc, s.readByte (s.pc + 1#16), s.readByte (s.pc + 2#16)]).toOption =
        some (.incAbs 0xFFFF#16, []) ∧ (Instr.incAbs 0xFFFF#16).operation = some .inc ∧ step s = .next t) :=
  ⟨⟨_, rfl⟩,
   ⟨(small.writeByte 0x0600#16 0xA1#8).writeByte 0x0601#16 0xFF#8, _, by decide, by decide, by decide, rfl, rfl⟩,
   ⟨((small.writeByte 0x0600#16 0xEE#8).writeByte 0x0601#16 0xFF#8).writeByte 0x0602#16 0xFF#8, _, by decide, by decide,
     by decide, rfl, rfl⟩⟩

theorem witness_StackStaysInItsPage :
    small.s = 0x00#8 ∧ (small.setS 0xFF#8).s = 0xFF#8 ∧ opIn .brk [.pha, .php, .jsr, .brk] ∧
    (∃ t, exec .brk small = .next t) ∧ (0x00FF#16 : Word).toNat < 0x0100 ∧ 0x01FF < (0x0200#16 : Word).toNat :=
  ⟨by decide, by decide, ⟨.brk, by decide, rfl⟩, ⟨_, rfl⟩, by decide, by decide⟩

/-- A Running state, and a Halted one in which the second part of the invariant says something. -/
theorem witness_StepKeepsInvariant :
    (small.Inv ∧ ∃ t, step small = .next t) ∧ ((atIllegal 0x02#8).Inv ∧ ∃ t, step (atIllegal 0x02#8) = .next t) ∧ frozen.Inv :=
  ⟨⟨⟨by decide, by decide⟩, _, rfl⟩, ⟨⟨by decide, by decide⟩, _, rfl⟩, ⟨by decide, by decide⟩⟩

theorem witness_HostCallsKeepMemoryForm :
    small.mem.wf = true ∧ (∃ t r, hostCall (.act (.writeWord 0xFFFF#16 0x1200#16)) small = .next (t, r)) ∧
    (∃ t, runCalls [.step, .act .raiseIrq, .act (.reset 0x55#8)] small = .next t) ∧
    ((nopLaunch []).memInit.wf = true ∧ ∃ p, (nopLaunch []).run 1 = .next p) ∧
    (∃ σ τ : System, σ.mem.wf = true ∧ runSystem [(0, .step), (1, .act .raiseNmi), (7, .step)] σ = .next τ) :=
  ⟨by decide, ⟨_, _, rfl⟩, ⟨_, rfl⟩, ⟨by decide, _, rfl⟩,
   ⟨{ cores := [coreOf small, coreOf frozen], mem := small.mem }, _, by decide, rfl⟩⟩

/-- A run that has ended, one that has not, and one whose host does nothing between steps. -/
theorem witness_StateResetIsALaunch :
    (∃ e t, (nopLaunch []).run 1 = .next (.ended e t)) ∧ (∃ t, (nopLaunch []).run 0 = .next (.going t)) ∧
    ({ nopLaunch [] with schedule := [] } : Launch).schedule = [] := ⟨⟨_, _, rfl⟩, ⟨_, rfl⟩, rfl⟩

theorem witness_StoredBreakIsUnobservable : (∃ t, step small = .next t) ∧ (∃ r, step frozen = .fault r) :=
  ⟨⟨_, rfl⟩, ⟨_, rfl⟩⟩

theorem witness_HaltOpcodeIsUnreadWhileRunning : small.runState = .running ∧ ∃ t, step small = .next t := ⟨rfl, _, rfl⟩

theorem witness_DecimalFlagChangesNoArithmetic :
    Instr.adcImm 0x99#8 ∈ formsAdc 0x99#8 0#8 0#16 ++ formsSbc 0x99#8 0#8 0#16 ∧ ∃ t, exec (.adcImm 0x99#8) small = .next t :=
  ⟨by decide, _, rfl⟩

theorem witness_RaiseIrqResult :
    frozen.runState = .halted ∧ (small.setFlag .i true).p.i = true ∧ small.runState = .running ∧ small.p.i = false := by
  decide

theorem witness_RaiseNmiResult : frozen.runState = .halted ∧ small.runState = .running := by decide

/-- A call that leaves Halted and one that does not, and two flags. -/
theorem witness_OnlyResetAndPcWriteLeaveHalted :
    frozen.runState = .halted ∧ (∃ t r, hostCall (.act (.reset 0#8)) frozen = .next (t, r)) ∧
    (∃ t r, hostCall (.act .raiseNmi) frozen = .next (t, r)) ∧ Flag.n ≠ Flag.v :=
  ⟨rfl, ⟨_, _, rfl⟩, ⟨_, _, rfl⟩, by decide⟩

/-- S = 00: the two pushes wrap inside the stack page. -/
theorem witness_CallThenReturn : small.mem.wf = true ∧ small.s = 0x00#8 := by decide

theorem witness_InterruptThenReturn : small.mem.wf = true ∧ small.runState = .running ∧ small.p.i = false := by decide

theorem witness_PushThenPull : small.mem.wf = true := by decide

/-- Two drivers over one memory, the second Halted, and the start of a system. -/
theorem witness_CoreStepTouchesOneCore :
    ∃ (σ : System) (c d : CoreState), (1 : Nat) ≠ 0 ∧ σ.cores[0]? = some c ∧ c.runState = .running ∧
      σ.cores[1]? = some d ∧ d.runState = .halted ∧ [(zeroPowerOn, 0x55#8)][0]? = some (zeroPowerOn, 0x55#8) :=
  ⟨{ cores := [coreOf small, coreOf frozen], mem := small.mem }, _, _, by decide, rfl, rfl, rfl, rfl, rfl⟩

end Sys2Proof.Tests
end

section
/-! SUPPORT. What `exec` does, said once for each of the 56 operations: `opEffect` gives the next state of an operation with an
operand, and `exec_of_operation` ties it to `exec`. -/

namespace Sys2Proof.Machine

/-! ### The effect of an operation -/

/-- The address the resolver gives, for a mode that has one (40_addressing.md R120). -/
def operandEa (m : Operand) (s : State) : Word := (resolveEa m s).getD 0#16

/-- The value the resolver gives, for a mode that has one (40_addressing.md R133). -/
def operandVal (m : Operand) (s : State) : Byte := (resolveVal m s).getD 0#8

/-- `WriteBack(res)` (41_alu.md R160): A in mode acc, the byte at the effective address otherwise. -/
def writeBack (m : Operand) (res : Byte) (s : State) : State :=
  match m with
  | .acc => s.setA res
  | _ => s.writeByte (operandEa m s) res

/-- A shift or rotate in any of its modes (41_alu.md R155 to R158). -/
def shiftAt (f : Byte → Bool → Byte × Bool) (m : Operand) (s : State) : State :=
  let r := f (operandVal m s) s.p.c
  setZN r.1 ((writeBack m r.1 s).setP { s.p with c := r.2 })

/-- `Branch(cond)` to the target that the operand gives (45_branch.md R248). -/
def branchTo (cond : Bool) (m : Operand) (s : State) : State := s.setPc (if cond then operandEa m s else s.pc)

/-- The next state of each operation with an operand of one of its modes. -/
def opEffect (o : Operation) (m : Operand) (s : State) : State :=
  let v := operandVal m s
  let ea := operandEa m s
  match o with
  | .adc => putSum (sum9 s.a v s.p.c) (addOverflow s.a v (loByte (sum9 s.a v s.p.c))) s
  | .sbc => putSum (sum9 s.a (~~~v) s.p.c) (subOverflow s.a v (loByte (sum9 s.a (~~~v) s.p.c))) s
  | .and => loadA (s.a &&& v) s
  | .ora => loadA (s.a ||| v) s
  | .eor => loadA (s.a ^^^ v) s
  | .asl => shiftAt aslByte m s
  | .lsr => shiftAt lsrByte m s
  | .rol => shiftAt rolByte m s
  | .ror => shiftAt rorByte m s
  | .bit => bitTest v s
  | .lda => loadA v s
  | .ldx => loadX v s
  | .ldy => loadY v s
  | .sta => s.writeByte ea s.a
  | .stx => s.writeByte ea s.x
  | .sty => s.writeByte ea s.y
  | .inc => modifyMem (· + 1#8) ea s
  | .dec => modifyMem (· - 1#8) ea s
  | .inx => loadX (s.x + 1#8) s
  | .iny => loadY (s.y + 1#8) s
  | .dex => loadX (s.x - 1#8) s
  | .dey => loadY (s.y - 1#8) s
  | .cmp => compareOp s.a v s
  | .cpx => compareOp s.x v s
  | .cpy => compareOp s.y v s
  | .bpl => branchTo (!s.p.n) m s
  | .bmi => branchTo s.p.n m s
  | .bvc => branchTo (!s.p.v) m s
  | .bvs => branchTo s.p.v m s
  | .bcc => branchTo (!s.p.c) m s
  | .bcs => branchTo s.p.c m s
  | .bne => branchTo (!s.p.z) m s
  | .beq => branchTo s.p.z m s
  | .jmp => s.setPc ea
  | .jsr => jumpSubroutine ea s
  | .rts => returnSubroutine s
  | .brk => enterInterrupt (s.pc + 1#16) true params.vecIrq s
  | .rti => returnFromInterrupt s
  | .pha => push s.a s
  | .pla => pullA s
  | .php => push (statusByte s.p true) s
  | .plp => pullFlags s
  | .tax => loadX s.a s
  | .txa => loadA s.x s
  | .tay => loadY s.a s
  | .tya => loadA s.y s
  | .tsx => loadX s.s s
  | .txs => s.setS s.x
  | .clc => s.setFlag .c false
  | .sec => s.setFlag .c true
  | .cli => s.setFlag .i false
  | .sei => s.setFlag .i true
  | .cld => s.setFlag .d false
  | .sed => s.setFlag .d true
  | .clv => s.setFlag .v false
  | .nop => s

/-- Every form of an operation has the one effect of the operation, with its own operand. -/
theorem exec_of_operation {i : Instr} {o : Operation} (h : i.operation = some o) (s : State) :
    exec i s = .next (opEffect o i.operand s) := by
  cases i <;> cases h
  case bpl | bmi | bvc | bvs | bcc | bcs | bne | beq => exact congrArg _ (branch_eq _ _ _)
  all_goals rfl

/-- What `exec` can do: the effect of the instruction's operation, or the halt of an illegal byte. -/
theorem exec_cases (i : Instr) (s : State) :
    (∃ o, i.operation = some o ∧ exec i s = .next (opEffect o i.operand s)) ∨
      (∃ op, i = .illegal op ∧ exec i s = .next (haltOnIllegal op s)) := by
  cases ho : i.operation with
  | some o => exact .inl ⟨o, rfl, exec_of_operation ho s⟩
  | none => cases i <;> cases ho; exact .inr ⟨_, rfl, rfl⟩

/-- The same, about the next state that `exec` answers. -/
theorem exec_next_cases {i : Instr} {s t : State} (h : exec i s = .next t) :
    (∃ o, i.operation = some o ∧ t = opEffect o i.operand s) ∨ (∃ op, i = .illegal op ∧ t = haltOnIllegal op s) := by
  obtain ⟨o, ho, he⟩ | ⟨op, hi, he⟩ := exec_cases i s <;> cases he.symm.trans h
  · exact .inl ⟨o, ho, rfl⟩
  · exact .inr ⟨op, hi, rfl⟩

/-- `exec` never stops. -/
theorem exec_ne_fault (i : Instr) (s : State) (r : Fault) : exec i s ≠ .fault r := by
  obtain ⟨_, _, he⟩ | ⟨_, _, he⟩ := exec_cases i s <;> simp [he]

/-- An operation is in a list exactly when it is a member of it. -/
theorem opIn_iff_mem {i : Instr} {o : Operation} (h : i.operation = some o) (l : List Operation) :
    Spec.opIn i l ↔ o ∈ l := by
  simp [Spec.opIn, h]

/-! ### The fields of the parts of an effect -/

@[simp] theorem setFlag_p_c (s : State) (b : Bool) : (s.setFlag .c b).p = { s.p with c := b } := rfl
@[simp] theorem setFlag_p_i (s : State) (b : Bool) : (s.setFlag .i b).p = { s.p with i := b } := rfl
@[simp] theorem setFlag_p_d (s : State) (b : Bool) : (s.setFlag .d b).p = { s.p with d := b } := rfl
@[simp] theorem setFlag_p_v (s : State) (b : Bool) : (s.setFlag .v b).p = { s.p with v := b } := rfl

@[simp] theorem compareOp_p (r v : Byte) (s : State) :
    (compareOp r v s).p = { s.p with c := decide (v.toNat ≤ r.toNat), z := r == v, n := (r - v).getLsbD 7 } := rfl

@[simp] theorem bitTest_p (v : Byte) (s : State) :
    (bitTest v s).p = { s.p with z := (s.a &&& v) == 0#8, n := v.getLsbD 7, v := v.getLsbD 6 } := rfl

@[simp] theorem pullA_p (s : State) :
    (pullA s).p = { s.p with z := (pull s).1 == 0#8, n := (pull s).1.getLsbD 7 } := rfl

@[simp] theorem writeBack_x (m : Operand) (v : Byte) (s : State) : (writeBack m v s).x = s.x := by cases m <;> rfl
@[simp] theorem writeBack_y (m : Operand) (v : Byte) (s : State) : (writeBack m v s).y = s.y := by cases m <;> rfl
@[simp] theorem writeBack_s (m : Operand) (v : Byte) (s : State) : (writeBack m v s).s = s.s := by cases m <;> rfl
@[simp] theorem writeBack_pc (m : Operand) (v : Byte) (s : State) : (writeBack m v s).pc = s.pc := by cases m <;> rfl
@[simp] theorem writeBack_runState (m : Operand) (v : Byte) (s : State) : (writeBack m v s).runState = s.runState := by
  cases m <;> rfl
@[simp] theorem writeBack_haltOpcode (m : Operand) (v : Byte) (s : State) :
    (writeBack m v s).haltOpcode = s.haltOpcode := by
  cases m <;> rfl

/-- Only mode acc writes A. -/
theorem writeBack_a {m : Operand} (h : m ≠ .acc) (v : Byte) (s : State) : (writeBack m v s).a = s.a := by
  cases m
  case acc => exact absurd rfl h
  all_goals rfl

@[simp] theorem shiftAt_x (f : Byte → Bool → Byte × Bool) (m : Operand) (s : State) : (shiftAt f m s).x = s.x := by
  simp [shiftAt]
@[simp] theorem shiftAt_y (f : Byte → Bool → Byte × Bool) (m : Operand) (s : State) : (shiftAt f m s).y = s.y := by
  simp [shiftAt]
@[simp] theorem shiftAt_s (f : Byte → Bool → Byte × Bool) (m : Operand) (s : State) : (shiftAt f m s).s = s.s := by
  simp [shiftAt]
@[simp] theorem shiftAt_pc (f : Byte → Bool → Byte × Bool) (m : Operand) (s : State) : (shiftAt f m s).pc = s.pc := by
  simp [shiftAt]
@[simp] theorem shiftAt_runState (f : Byte → Bool → Byte × Bool) (m : Operand) (s : State) :
    (shiftAt f m s).runState = s.runState := by
  simp [shiftAt]
@[simp] theorem shiftAt_haltOpcode (f : Byte → Bool → Byte × Bool) (m : Operand) (s : State) :
    (shiftAt f m s).haltOpcode = s.haltOpcode := by
  simp [shiftAt]
@[simp] theorem shiftAt_p (f : Byte → Bool → Byte × Bool) (m : Operand) (s : State) :
    (shiftAt f m s).p =
      { s.p with
        c := (f (operandVal m s) s.p.c).2
        z := (f (operandVal m s) s.p.c).1 == 0#8
        n := (f (operandVal m s) s.p.c).1.getLsbD 7 } := rfl

theorem shiftAt_a {m : Operand} (h : m ≠ .acc) (f : Byte → Bool → Byte × Bool) (s : State) :
    (shiftAt f m s).a = s.a := by
  simp [shiftAt, writeBack_a h]

/-! ### What an operation outside a list leaves unchanged (10_state.md R21 to R24, R30, R32)

Each proof goes through the operations: a listed one contradicts the hypothesis, and for every other one the frame of its
shared operation says that the field is kept. -/

theorem opEffect_nz {o : Operation} (m : Operand) (s : State) (h : o ∉ .plp :: .rti :: Spec.nzWriters) :
    (opEffect o m s).p.n = s.p.n ∧ (opEffect o m s).p.z = s.p.z := by
  revert h
  cases o <;> simp [opEffect, branchTo, Spec.nzWriters]

theorem opEffect_v {o : Operation} (m : Operand) (s : State) (h : o ∉ [.adc, .sbc, .bit, .clv, .plp, .rti]) :
    (opEffect o m s).p.v = s.p.v := by
  revert h
  cases o <;> simp [opEffect, branchTo]

theorem opEffect_b {o : Operation} (m : Operand) (s : State) (h : o ∉ [.plp, .rti]) :
    (opEffect o m s).p.b = s.p.b := by
  revert h
  cases o <;> simp [opEffect, branchTo]

theorem opEffect_d {o : Operation} (m : Operand) (s : State) (h : o ∉ [.cld, .sed, .plp, .rti]) :
    (opEffect o m s).p.d = s.p.d := by
  revert h
  cases o <;> simp [opEffect, branchTo]

theorem opEffect_i {o : Operation} (m : Operand) (s : State) (h : o ∉ [.cli, .sei, .plp, .rti, .brk]) :
    (opEffect o m s).p.i = s.p.i := by
  revert h
  cases o <;> simp [opEffect, branchTo]

theorem opEffect_c {o : Operation} (m : Operand) (s : State)
    (h : o ∉ [.adc, .sbc, .asl, .lsr, .rol, .ror, .cmp, .cpx, .cpy, .clc, .sec, .plp, .rti]) :
    (opEffect o m s).p.c = s.p.c := by
  revert h
  cases o <;> simp [opEffect, branchTo]

theorem opEffect_a {o : Operation} {m : Operand} (s : State)
    (h : o ∉ [.adc, .sbc, .and, .ora, .eor, .lda, .pla, .txa, .tya])
    (hm : ¬ (o ∈ [.asl, .lsr, .rol, .ror] ∧ m = .acc)) : (opEffect o m s).a = s.a := by
  revert h hm
  cases o
  case asl | lsr | rol | ror =>
    intro _ hm
    exact shiftAt_a (fun e => hm ⟨by simp, e⟩) _ s
  all_goals simp [opEffect, branchTo]

theorem opEffect_x {o : Operation} (m : Operand) (s : State) (h : o ∉ [.ldx, .inx, .dex, .tax, .tsx]) :
    (opEffect o m s).x = s.x := by
  revert h
  cases o <;> simp [opEffect, branchTo]

theorem opEffect_y {o : Operation} (m : Operand) (s : State) (h : o ∉ [.ldy, .iny, .dey, .tay]) :
    (opEffect o m s).y = s.y := by
  revert h
  cases o <;> simp [opEffect, branchTo]

theorem opEffect_s {o : Operation} (m : Operand) (s : State)
    (h : o ∉ [.pha, .pla, .php, .plp, .jsr, .rts, .brk, .rti, .txs]) : (opEffect o m s).s = s.s := by
  revert h
  cases o <;> simp [opEffect, branchTo]

theorem opEffect_pc {o : Operation} (m : Operand) (s : State)
    (h : o ∉ [.bpl, .bmi, .bvc, .bvs, .bcc, .bcs, .bne, .beq, .jmp, .jsr, .rts, .brk, .rti]) :
    (opEffect o m s).pc = s.pc := by
  revert h
  cases o <;> simp [opEffect, branchTo]

theorem opEffect_runState (o : Operation) (m : Operand) (s : State) : (opEffect o m s).runState = s.runState := by
  cases o <;> simp [opEffect, branchTo]

theorem opEffect_haltOpcode (o : Operation) (m : Operand) (s : State) :
    (opEffect o m s).haltOpcode = s.haltOpcode := by
  cases o <;> simp [opEffect, branchTo]

/-! ### What a running step does not read: the stored B and halt_opcode (10_state.md R27, R30) -/

/-- The state with its unread part replaced. -/
def State.withUnread (b : Bool) (u : Byte) (s : State) : State := { s with p := { s.p with b := b }, haltOpcode := u }

theorem withUnread_same_haltOpcode (s : State) (b : Bool) : s.withUnread b s.haltOpcode = s.setFlag .b b := rfl

theorem withUnread_same_b (s : State) (u : Byte) : s.withUnread s.p.b u = { s with haltOpcode := u } := rfl

@[simp] theorem operandVal_withUnread (m : Operand) (b : Bool) (u : Byte) (s : State) :
    operandVal m (s.withUnread b u) = operandVal m s := by
  cases m <;> rfl

@[simp] theorem operandEa_withUnread (m : Operand) (b : Bool) (u : Byte) (s : State) :
    operandEa m (s.withUnread b u) = operandEa m s := by
  cases m <;> rfl

theorem shiftAt_withUnread (f : Byte → Bool → Byte × Bool) (m : Operand) (b : Bool) (u : Byte) (s : State) :
    shiftAt f m (s.withUnread b u) = (shiftAt f m s).withUnread b u := by
  cases m <;> rfl

theorem branchTo_withUnread (cond : Bool) (m : Operand) (b : Bool) (u : Byte) (s : State) :
    branchTo cond m (s.withUnread b u) = (branchTo cond m s).withUnread b u := by
  unfold branchTo
  rw [operandEa_withUnread]
  rfl

/-- The pushed status byte takes bit 4 from its argument, so the entry does not read the stored B (47_stack.md R283). -/
theorem enterInterrupt_withUnread (ret : Word) (b' : Bool) (vec : Word) (b : Bool) (u : Byte) (s : State) :
    enterInterrupt ret b' vec (s.withUnread b u) = (enterInterrupt ret b' vec s).withUnread b u := by
  rw [enterInterrupt_eq, enterInterrupt_eq]
  rfl

/-- An operation that pulls no flags hands the unread part on as it is. -/
theorem opEffect_withUnread {o : Operation} (h : o ∉ [.plp, .rti]) (m : Operand) (b : Bool) (u : Byte) (s : State) :
    opEffect o m (s.withUnread b u) = (opEffect o m s).withUnread b u := by
  cases o
  case plp | rti => simp at h
  case asl | lsr | rol | ror => exact shiftAt_withUnread _ m b u s
  case bpl | bmi | bvc | bvs | bcc | bcs | bne | beq => exact branchTo_withUnread _ m b u s
  case brk => exact enterInterrupt_withUnread _ _ _ b u s
  case nop => rfl
  all_goals
    simp only [opEffect, operandVal_withUnread, operandEa_withUnread]
    rfl

/-- PLP and RTI replace the stored B by the pulled one, whatever it was. -/
theorem opEffect_withUnread_of_pull {o : Operation} (h : o ∈ [.plp, .rti]) (m : Operand) (b : Bool) (u : Byte)
    (s : State) : opEffect o m (s.withUnread b u) = (opEffect o m s).withUnread (opEffect o m s).p.b u := by
  simp only [List.mem_cons, List.not_mem_nil, or_false] at h
  obtain rfl | rfl := h
  · rfl
  · simp only [opEffect, returnFromInterrupt_eq]
    rfl

/-- `exec` reads neither the stored B nor halt_opcode: replacing the two replaces at most the two in the next state, and one
that was not changed before is not changed after. -/
theorem exec_withUnread {i : Instr} {s t : State} (h : exec i s = .next t) (b : Bool) (u : Byte) :
    ∃ b' u', exec i (s.withUnread b u) = .next (t.withUnread b' u') ∧
      (b = s.p.b → b' = t.p.b) ∧ (u = s.haltOpcode → u' = t.haltOpcode) := by
  obtain ⟨o, ho, rfl⟩ | ⟨op, rfl, rfl⟩ := exec_next_cases h
  · rw [exec_of_operation ho]
    by_cases hp : o ∈ [.plp, .rti]
    · exact ⟨_, u, by rw [opEffect_withUnread_of_pull hp], fun _ => rfl, fun hu => by rw [hu, opEffect_haltOpcode]⟩
    · exact ⟨b, u, by rw [opEffect_withUnread hp], fun hb => by rw [hb, opEffect_b _ _ hp],
        fun hu => by rw [hu, opEffect_haltOpcode]⟩
  · exact ⟨b, op, rfl, id, fun _ => rfl⟩

/-- The same for a whole step: fetching and advancing PC read neither. -/
theorem step_withUnread {s t : State} (h : step s = .next t) (b : Bool) (u : Byte) :
    ∃ b' u', step (s.withUnread b u) = .next (t.withUnread b' u') ∧
      (b = s.p.b → b' = t.p.b) ∧ (u = s.haltOpcode → u' = t.haltOpcode) := by
  obtain ⟨hr, he⟩ := step_next s t h
  rw [step_running (s.withUnread b u) hr]
  exact exec_withUnread he b u

/-- Only a Halted driver's step stops, with the recorded byte (60_exceptions.md R361). -/
theorem step_fault {s : State} {r : Fault} (h : step s = .fault r) :
    s.runState = .halted ∧ r = .illegalOpcode s.haltOpcode := by
  cases hr : s.runState with
  | running => exact absurd (step_running s hr ▸ h) (exec_ne_fault _ _ r)
  | halted =>
    rw [step_halted s hr] at h
    cases h
    exact ⟨rfl, rfl⟩

end Sys2Proof.Machine
end

section
/-! SUPPORT. The statements about the state (10_state.md): O41, O42, O49 and O50. -/

namespace Sys2Proof.Proofs

open Sys2Proof.Machine

/-- Settles O41: `exec` has the effect of the instruction's operation, and each flag has its frame. -/
theorem flagFrame : Obligations.FlagFrame := by
  intro i s t h
  obtain ⟨o, ho, rfl⟩ | ⟨op, rfl, rfl⟩ := exec_next_cases h
  · simp only [opIn_iff_mem ho]
    exact ⟨opEffect_nz _ s, opEffect_v _ s, opEffect_b _ s, opEffect_d _ s, opEffect_i _ s, opEffect_c _ s⟩
  · simp

/-- Settles O42: `exec` has the effect of the instruction's operation, and each register has its frame; an illegal byte
writes the run state and halt_opcode only. -/
theorem registerFrame : Obligations.RegisterFrame := by
  intro i s t h
  obtain ⟨o, ho, rfl⟩ | ⟨op, rfl, rfl⟩ := exec_next_cases h
  · simp only [opIn_iff_mem ho]
    exact ⟨opEffect_a s, opEffect_x _ s, opEffect_y _ s, opEffect_s _ s, opEffect_pc _ s,
      fun _ => ⟨opEffect_runState o _ s, opEffect_haltOpcode o _ s⟩⟩
  · simp [Instr.operation]

/-- Settles O49: a step does not read the stored B, and a step that stops reads the run state and halt_opcode only. -/
theorem storedBreakIsUnobservable : Obligations.StoredBreakIsUnobservable := by
  refine ⟨fun s t b h => ?_, fun s b r h => ?_⟩
  · obtain ⟨b', u', hs, -, hu⟩ := step_withUnread h b s.haltOpcode
    rw [hu rfl, withUnread_same_haltOpcode, withUnread_same_haltOpcode] at hs
    exact ⟨b', hs⟩
  · obtain ⟨hr, rfl⟩ := step_fault h
    exact step_halted _ hr

/-- Settles O50: a step of a Running driver does not read halt_opcode. -/
theorem haltOpcodeIsUnreadWhileRunning : Obligations.HaltOpcodeIsUnreadWhileRunning := by
  intro s t u _ h
  obtain ⟨b', u', hs, hb, -⟩ := step_withUnread h s.p.b u
  rw [hb rfl, withUnread_same_b, withUnread_same_b] at hs
  exact ⟨u', hs⟩

end Sys2Proof.Proofs
end

section
/-! SUPPORT. Words as numbers and in memory, and memory as a function of the 65536 addresses (20_memory.md R61 to R64, R69). -/

namespace Sys2Proof.Machine

/-- An address past the top of the address space reads the default. -/
theorem memRead_outside (m : Memory) (lo k : Nat) (h : memWfFrom lo m = true) (hk : 65536 ≤ k) :
    memRead m k = memDefault := by
  induction m generalizing lo with
  | nil => rfl
  | cons e rest ih =>
    obtain ⟨j, u⟩ := e
    simp only [memWfFrom, Bool.and_eq_true, decide_eq_true_eq] at h
    obtain ⟨⟨⟨-, hj⟩, -⟩, hrest⟩ := h
    simp only [memRead, if_neg (show ¬ j = k by omega)]
    exact ih _ hrest

/-- Canonical memories are equal as soon as no `Word` address tells them apart. -/
theorem mem_eq_of_readByte_eq {s t : State} (hs : s.mem.wf = true) (ht : t.mem.wf = true)
    (h : ∀ k, s.readByte k = t.readByte k) : s.mem = t.mem := by
  refine memory_ext _ _ 0 hs ht fun k => ?_
  by_cases hk : k < 65536
  · simpa [State.readByte, Nat.mod_eq_of_lt hk] using h (BitVec.ofNat 16 k)
  · rw [memRead_outside _ 0 k hs (by omega), memRead_outside _ 0 k ht (by omega)]

/-- A word as a number: the high byte counts 256 times. -/
theorem mkWord_toNat (hi lo : Byte) : (mkWord hi lo).toNat = hi.toNat * 256 + lo.toNat := by
  rw [mkWord, BitVec.toNat_append, ← Nat.shiftLeft_add_eq_or_of_lt lo.isLt, Nat.shiftLeft_eq]

/-- The two bytes of a word lie at different addresses, at the wrap too. -/
theorem word_add_one_ne (k : Word) : k + 1#16 ≠ k := by
  bv_omega

/-- A word write is read back (20_memory.md R63, R64). -/
theorem readWord_writeWord_same (s : State) (k v : Word) (h : s.mem.wf = true) : (s.writeWord k v).readWord k = v := by
  have hhi : (s.writeWord k v).readByte (k + 1#16) = hiByte v :=
    readByte_writeByte_same _ _ _ (writeByte_wf s k _ h)
  have hlo : (s.writeWord k v).readByte k = loByte v :=
    (readByte_writeByte_other _ _ _ _ (word_add_one_ne k)).trans (readByte_writeByte_same s k _ h)
  rw [State.readWord, hhi, hlo, mkWord_hiByte_loByte]

end Sys2Proof.Machine
end

section
/-! SUPPORT. The statements about memory (20_memory.md): O11 and O12. -/

namespace Sys2Proof.Proofs

open Sys2Proof.Machine

/-- Settles O11: the laws of a byte write, and that canonical memories are equal when every address reads the same. -/
theorem readAfterWrite : Obligations.ReadAfterWrite :=
  ⟨fun s k v h => ⟨readByte_writeByte_same s k v h, fun _ hj => readByte_writeByte_other s k _ v hj.symm,
    writeByte_wf s k v h, rfl⟩, fun _ _ => mem_eq_of_readByte_eq⟩

/-- Settles O12: a word is its two bytes as a number, and the second address differs from the first. -/
theorem wordAccessIsLittleEndian : Obligations.WordAccessIsLittleEndian := by
  intro s k v
  exact ⟨mkWord_toNat _ _, rfl, mkWord_toNat _ _, readWord_writeWord_same s k v⟩

end Sys2Proof.Proofs
end

section
/-! SUPPORT. The decoder and the encoder against each other (30_encoding.md R80 to R95): the decoder is the map of R95, so an
instruction's opcode byte is the only byte of its operation and mode, and its operand is its mode applied to the operand bytes. -/

namespace Sys2Proof

open Sys2Proof.Machine Sys2Proof.Spec

/-! ### The opcode byte (R82, R95) -/

/-- Each row's byte decodes to the operation and mode of the row. -/
theorem decodeOpcode_of_mem_opcodeMap : ∀ e ∈ opcodeMap, decodeOpcode e.2.2 = some (e.1, e.2.1) := by decide +kernel

/-- Each byte that decodes to an operation and a mode has its row. -/
theorem mem_opcodeMap_of_decodeOpcode : ∀ b, ∀ x ∈ decodeOpcode b, (x.1, x.2, b) ∈ opcodeMap := by decide +kernel

theorem decodeOpcode_eq_some_iff_mem_opcodeMap (o : Operation) (k : AddressingModeKind) (b : Byte) :
    decodeOpcode b = some (o, k) ↔ (o, k, b) ∈ opcodeMap :=
  ⟨mem_opcodeMap_of_decodeOpcode b (o, k), decodeOpcode_of_mem_opcodeMap (o, k, b)⟩

/-- No two rows of the map share their operation and mode. -/
theorem opcodeMap_pairs_nodup : (opcodeMap.map fun e => (e.1, e.2.1)).Nodup := by decide +kernel

/-- Only one byte decodes to a given operation and mode. -/
theorem decodeOpcode_injective {a b : Byte} {o : Operation} {k : AddressingModeKind} (ha : decodeOpcode a = some (o, k))
    (hb : decodeOpcode b = some (o, k)) : a = b := by
  rw [decodeOpcode_eq_some_iff_mem_opcodeMap] at ha hb
  simpa using List.inj_on_of_nodup_map opcodeMap_pairs_nodup ha hb rfl

/-- The decoder keeps the opcode byte, legal or not. -/
theorem opcode_decodeInstr (op b1 b2 : Byte) : (decodeInstr op b1 b2).opcode = op := by
  cases hd : decodeOpcode op with
  | none => rw [decodeInstr_illegal op b1 b2 ((decodeOpcode_eq_none op).mp hd)]; rfl
  | some ok =>
    obtain ⟨ho, hk⟩ := decodeInstr_some op b1 b2 ok.1 ok.2 hd
    have hown := decodeOpcode_opcode _ _ ho
    rw [hk] at hown
    exact decodeOpcode_injective hown hd

/-! ### The operand (R93, R94) -/

/-- The operand that a mode reads from the two bytes after the opcode byte. -/
def AddressingModeKind.operand (b1 b2 : Byte) : AddressingModeKind → Operand
  | .accumulator => .acc
  | .implied => .imp
  | .immediate => .imm b1
  | .zeroPage => .zp b1
  | .zeroPageIndexedWithX => .zpX b1
  | .zeroPageIndexedWithY => .zpY b1
  | .absolute => .abs (mkWord b2 b1)
  | .absoluteIndexedWithX => .absX (mkWord b2 b1)
  | .absoluteIndexedWithY => .absY (mkWord b2 b1)
  | .absoluteIndirect => .ind (mkWord b2 b1)
  | .indexedIndirect => .izX b1
  | .indirectIndexed => .izY b1
  | .relative => .rel b1

/-- The bytes of that operand are the bytes it was read from. -/
theorem bytes_operand (k : AddressingModeKind) (b1 b2 : Byte) :
    (k.operand b1 b2).bytes = [b1, b2].take k.operandBytes := by
  cases k
  case absolute | absoluteIndexedWithX | absoluteIndexedWithY | absoluteIndirect =>
    simp [AddressingModeKind.operand, Operand.bytes, AddressingModeKind.operandBytes]
  all_goals rfl

/-- Assembly reads the operand as the mode says, whatever the operation. -/
theorem operand_assemble {o : Operation} {k : AddressingModeKind} (h : k ∈ legalModes o) (b1 b2 : Byte) :
    (assemble o k b1 b2).map Instr.operand = some (k.operand b1 b2) := by
  cases o <;> fin_cases h <;> rfl

theorem operand_decodeInstr {op : Byte} {o : Operation} {k : AddressingModeKind} (h : decodeOpcode op = some (o, k))
    (b1 b2 : Byte) : (decodeInstr op b1 b2).operand = k.operand b1 b2 := by
  obtain ⟨i, hi, ho⟩ := Option.map_eq_some_iff.mp (operand_assemble (decodeOpcode_legal op o k h) b1 b2)
  simp [decodeInstr, h, hi, ho]

/-- The decoder's operand has the bytes that follow the opcode byte, as many as it reads. -/
theorem operand_bytes_decodeInstr (op b1 b2 : Byte) :
    (decodeInstr op b1 b2).operand.bytes = [b1, b2].take (decodeInstr op b1 b2).operandBytes := by
  cases hd : decodeOpcode op with
  | none => rw [decodeInstr_illegal op b1 b2 ((decodeOpcode_eq_none op).mp hd)]; rfl
  | some ok =>
    rw [Instr.operandBytes, (decodeInstr_some op b1 b2 ok.1 ok.2 hd).2, operand_decodeInstr hd, bytes_operand]

/-! ### Well-formed instructions (R91, R92) -/

theorem wellFormed_of_operation {i : Instr} {o : Operation} (h : i.operation = some o) : WellFormed i := by
  cases i <;> cases h <;> rfl

theorem wellFormed_illegal_iff (op : Byte) : WellFormed (.illegal op) ↔ op ∈ illegalBytes := by
  simp [WellFormed, Instr.wellFormed]

/-- A well-formed instruction has an operation, or is one of the 105 illegal bytes. -/
theorem wellFormed_cases {i : Instr} (h : WellFormed i) :
    (∃ o, i.operation = some o) ∨ ∃ op ∈ illegalBytes, i = .illegal op := by
  cases ho : i.operation with
  | some o => exact .inl ⟨o, rfl⟩
  | none => cases i <;> cases ho; exact .inr ⟨_, (wellFormed_illegal_iff _).mp h, rfl⟩

theorem wellFormed_decodeInstr (op b1 b2 : Byte) : WellFormed (decodeInstr op b1 b2) := by
  cases hd : decodeOpcode op with
  | none =>
    have hm := (decodeOpcode_eq_none op).mp hd
    rw [decodeInstr_illegal op b1 b2 hm]
    exact (wellFormed_illegal_iff op).mpr hm
  | some ok => exact wellFormed_of_operation (decodeInstr_some op b1 b2 ok.1 ok.2 hd).1

/-! ### Decoding what was encoded (R80) -/

/-- A well-formed instruction's opcode byte and own operand bytes decode to it, whatever follows them. -/
theorem decodeInstr_opcode_bytes {i : Instr} (h : WellFormed i) (rest : List Byte) :
    decodeInstr i.opcode ((i.operand.bytes ++ rest).getD 0 0#8) ((i.operand.bytes ++ rest).getD 1 0#8) = i := by
  obtain ⟨o, ho⟩ | ⟨op, hm, rfl⟩ := wellFormed_cases h
  · have hlen : i.operand.bytes.length = i.operandBytes := operand_bytes_length i.operand
    exact decodeInstr_own i o ho _ _ (fun h1 => List.getD_append _ _ _ _ (by omega))
      (fun h2 => List.getD_append _ _ _ _ (by omega))
  · exact decodeInstr_illegal op _ _ hm

theorem decode_encode_append {i : Instr} (h : WellFormed i) (rest : List Byte) :
    decode (encode i ++ rest) = .ok (i, rest) := by
  have hlen : i.operandBytes = i.operand.bytes.length := (operand_bytes_length i.operand).symm
  rw [encode, List.cons_append, decode, decodeInstr_opcode_bytes h rest, hlen]
  simp

/-- A word that is the encoding of an instruction decodes to it, with nothing left over. -/
theorem decode_toOption_of_encode {i : Instr} {bs : List Byte} (h : WellFormed i) (he : encode i = bs) :
    (decode bs).toOption = some (i, []) := by
  have hd := decode_encode_append h []
  rw [List.append_nil, he] at hd
  rw [hd]
  rfl

end Sys2Proof
end

section
/-! SUPPORT. The statements about the encoding (30_encoding.md): O1 to O5. -/

namespace Sys2Proof.Proofs

open Sys2Proof.Machine

/-- Settles O1: the decoder reads the instruction from its own bytes, and drops exactly them. -/
theorem decodeEncodeRoundTrip : Obligations.DecodeEncodeRoundTrip := fun _ => decode_encode_append

/-- Settles O2: the decoder keeps the opcode byte and the operand bytes that the mode reads. -/
theorem encodeDecodeRoundTrip : Obligations.EncodeDecodeRoundTrip := by
  intro op b1 b2
  rw [encode, opcode_decodeInstr, operand_bytes_decodeInstr, Instr.length, AddressingModeKind.length, Nat.add_comm]
  rfl

/-- Settles O3: each clause is a fact about the decoder on a legal or on an illegal byte. -/
theorem decoderYieldsOnlyLegalPairs : Obligations.DecoderYieldsOnlyLegalPairs := by
  intro op b1 b2
  exact ⟨wellFormed_decodeInstr op b1 b2,
    fun o k h => ⟨decodeOpcode_legal op o k h, decodeInstr_some op b1 b2 o k h⟩,
    fun h => decodeInstr_illegal op b1 b2 ((decodeOpcode_eq_none op).mp h), decodeOpcode_eq_none op⟩

/-- Settles O4: each row's byte decodes to the row's pair, and each byte that decodes to a pair has its row. -/
theorem opcodeMapOfTheSpec : Obligations.OpcodeMapOfTheSpec := decodeOpcode_eq_some_iff_mem_opcodeMap

/-- Settles O5: each of the words is the encoding of its instruction, and decodes to it. -/
theorem decodesSpecWords : Obligations.DecodesSpecWords := by
  unfold Obligations.DecodesSpecWords
  and_intros <;> exact decode_toOption_of_encode rfl rfl

end Sys2Proof.Proofs
end

section
/-! SUPPORT. The addresses of the resolver as words and as numbers (40_addressing.md R122 to R134). -/

namespace Sys2Proof.Machine

/-! ### Widening and sums as numbers (00_scope.md R7) -/

@[simp] theorem zext16_toNat (b : Byte) : (zext16 b).toNat = b.toNat :=
  BitVec.toNat_setWidth_of_le (by decide)

@[simp] theorem sext16_toInt (b : Byte) : (sext16 b).toInt = b.toInt :=
  BitVec.toInt_signExtend_of_le (by decide)

/-- A 16-bit sum reads its second summand as signed or unsigned alike: the two differ by 65536. -/
theorem word_add_toNat_toInt (w d : Word) : ((w + d).toNat : Int) = (w.toNat + d.toInt) % 65536 := by
  rw [BitVec.toNat_add, BitVec.toInt_eq_toNat_cond]
  split <;> omega

/-! ### The indexed modes and the branch target (R127, R128, R134) -/

theorem eaZpX_toNat (z : Byte) (s : State) : (eaZpX z s).toNat = (z.toNat + s.x.toNat) % 256 :=
  (zext16_toNat _).trans (BitVec.toNat_add _ _)

theorem eaZpY_toNat (z : Byte) (s : State) : (eaZpY z s).toNat = (z.toNat + s.y.toNat) % 256 :=
  (zext16_toNat _).trans (BitVec.toNat_add _ _)

theorem eaAbsX_toNat (w : Word) (s : State) : (eaAbsX w s).toNat = (w.toNat + s.x.toNat) % 65536 := by
  rw [eaAbsX, BitVec.toNat_add, zext16_toNat]

theorem eaAbsY_toNat (w : Word) (s : State) : (eaAbsY w s).toNat = (w.toNat + s.y.toNat) % 65536 := by
  rw [eaAbsY, BitVec.toNat_add, zext16_toNat]

theorem eaRel_toNat (off : Byte) (s : State) : ((eaRel off s).toNat : Int) = (s.pc.toNat + off.toInt) % 65536 := by
  rw [eaRel, word_add_toNat_toInt, sext16_toInt]

/-! ### The pointers (R129 to R132), with both settings of their wraps -/

theorem zpPtrHigh_true_toNat (z : Byte) : (zpPtrHigh true z).toNat = (z.toNat + 1) % 256 :=
  (zext16_toNat _).trans (BitVec.toNat_add _ _)

/-- Without the wrap, the high byte of the pointer at 0xFF lies at 0x0100. -/
theorem zpPtrHigh_false_toNat (z : Byte) : (zpPtrHigh false z).toNat = z.toNat + 1 := by
  have hz : (zpPtrHigh false z).toNat = ((zext16 z).toNat + 1) % 65536 := BitVec.toNat_add _ _
  rw [hz, zext16_toNat]
  omega

/-- The mask of the high byte clears the low byte. -/
theorem word_and_highMask_toNat (w : Word) : (w &&& 0xFF00#16).toNat = (w.toNat / 256) <<< 8 := by
  have hw : w &&& 0xFF00#16 = w >>> 8 <<< 8 := (BitVec.shiftLeft_ushiftRight (x := w) (n := 8)).symm
  rw [hw, BitVec.toNat_shiftLeft, BitVec.toNat_ushiftRight, Nat.shiftRight_eq_div_pow]
  omega

/-- The mask of the low byte takes the word modulo 256. -/
theorem word_and_lowMask_toNat (w : Word) : (w &&& 0x00FF#16).toNat = w.toNat % 256 := by
  rw [BitVec.toNat_and]
  exact Nat.and_two_pow_sub_one_eq_mod w.toNat 8

/-- With the wrap, the high byte's address has the page of `w` and the low byte of `w + 1`. -/
theorem indPtrHigh_true_toNat (w : Word) :
    (indPtrHigh true w).toNat = w.toNat / 256 * 256 + (w.toNat + 1) % 256 := by
  have hsum : (w + 1#16).toNat % 256 = (w.toNat + 1) % 256 := by
    rw [BitVec.toNat_add]
    exact Nat.mod_mod_of_dvd _ (by decide)
  calc (indPtrHigh true w).toNat
    _ = (w &&& 0xFF00#16).toNat ||| ((w + 1#16) &&& 0x00FF#16).toNat := BitVec.toNat_or _ _
    _ = (w.toNat / 256) <<< 8 ||| (w.toNat + 1) % 256 := by
      rw [word_and_highMask_toNat, word_and_lowMask_toNat, hsum]
    _ = (w.toNat / 256) <<< 8 + (w.toNat + 1) % 256 :=
      (Nat.shiftLeft_add_eq_or_of_lt (Nat.mod_lt _ (by decide)) _).symm
    _ = w.toNat / 256 * 256 + (w.toNat + 1) % 256 := by rw [Nat.shiftLeft_eq]

theorem indPtrHigh_false_toNat (w : Word) : (indPtrHigh false w).toNat = (w.toNat + 1) % 65536 :=
  BitVec.toNat_add _ _

/-! ### The pointer modes with the parameters the model runs with (00_scope.md R6) -/

theorem eaIzX_eq (z : Byte) (s : State) :
    eaIzX z s = mkWord (s.readByte (zext16 (z + s.x + 1#8))) (s.readByte (zext16 (z + s.x))) := rfl

theorem eaIzY_eq (z : Byte) (s : State) :
    eaIzY z s = mkWord (s.readByte (zext16 (z + 1#8))) (s.readByte (zext16 z)) + zext16 s.y := rfl

theorem eaInd_eq (w : Word) (s : State) :
    eaInd w s = mkWord (s.readByte ((w &&& 0xFF00#16) ||| ((w + 1#16) &&& 0x00FF#16))) (s.readByte w) := rfl

end Sys2Proof.Machine
end

section
/-! SUPPORT. The statements about the resolver (40_addressing.md): O13 and O14. -/

namespace Sys2Proof.Proofs

open Sys2Proof.Machine

/-- Settles O14: the resolver's address in each mode is the mode's own, and each has its value as a number. -/
theorem addressArithmetic : Obligations.AddressArithmetic := by
  intro s z off w
  simp only [resolveEa, Option.some.injEq, forall_eq']
  exact ⟨eaZpX_toNat z s, eaZpY_toNat z s, eaAbsX_toNat w s, eaAbsY_toNat w s, zpPtrHigh_true_toNat z,
    zpPtrHigh_false_toNat z, indPtrHigh_true_toNat w, indPtrHigh_false_toNat w, eaRel_toNat off s⟩

/-- Settles O13: every mode but the three with a pointer has its address and value by the resolver's equation for it; the
pointer modes read with the wraps of the model's parameters. -/
theorem resolverModes : Obligations.ResolverModes := by
  intro s v z off w
  refine ⟨⟨rfl, rfl⟩, ⟨rfl, rfl⟩, ⟨rfl, rfl⟩, ⟨rfl, rfl⟩, ⟨rfl, rfl⟩, ⟨rfl, rfl⟩, ⟨rfl, rfl⟩, ⟨rfl, rfl⟩, ⟨rfl, rfl⟩,
    ?izX, ?izY, rfl, ?ind, ⟨rfl, rfl⟩⟩
  case izX => exact ⟨eaIzX z s, eaIzX_eq z s, rfl, rfl⟩
  case izY => exact ⟨eaIzY z s, eaIzY_eq z s, rfl, rfl⟩
  case ind => exact ⟨congrArg some (eaInd_eq w s), rfl, rfl⟩

end Sys2Proof.Proofs
end

section
/-! SUPPORT. What the resolver gives for the modes of an operation (40_addressing.md R133, R135), and the forms of the ALU
operations (41_alu.md R150 to R159). -/

namespace Sys2Proof.Machine

open Sys2Proof.Spec

/-! ### The resolver on the modes of an operation -/

theorem kind_mem_legalModes {i : Instr} {o : Operation} (h : i.operation = some o) : i.operand.kind ∈ legalModes o :=
  decodeOpcode_legal _ _ _ (decodeOpcode_opcode i o h)

/-- The modes whose value is the byte at their effective address (40_addressing.md R133). -/
def memoryModes : List AddressingModeKind :=
  [.zeroPage, .zeroPageIndexedWithX, .zeroPageIndexedWithY, .absolute, .absoluteIndexedWithX, .absoluteIndexedWithY,
   .indexedIndirect, .indirectIndexed]

theorem resolveEa_of_memoryMode {m : Operand} (h : m.kind ∈ memoryModes) (s : State) :
    resolveEa m s = some (operandEa m s) := by
  cases m
  case acc | imp | imm | ind | rel => exact absurd h (by simp [Operand.kind, memoryModes])
  all_goals rfl

theorem operandVal_of_memoryMode {m : Operand} (h : m.kind ∈ memoryModes) (s : State) :
    operandVal m s = s.readByte (operandEa m s) := by
  cases m
  case acc | imp | imm | ind | rel => exact absurd h (by simp [Operand.kind, memoryModes])
  all_goals rfl

theorem resolveVal_eq_operandVal {m : Operand} (h : m.kind ∉ [.implied, .absoluteIndirect, .relative]) (s : State) :
    resolveVal m s = some (operandVal m s) := by
  cases m
  case imp | ind | rel => exact absurd (by simp [Operand.kind]) h
  all_goals rfl

/-- An operation that consumes a value has no mode without one. -/
theorem resolveVal_of_consuming {i : Instr} {o : Operation} (h : i.operation = some o) (ho : o ∈ consuming) (s : State) :
    resolveVal i.operand s = some (operandVal i.operand s) := by
  have key : ∀ o ∈ consuming, ∀ k ∈ legalModes o, k ∉ [.implied, .absoluteIndirect, .relative] := by decide
  exact resolveVal_eq_operandVal (key o ho _ (kind_mem_legalModes h)) s

/-- An operation that stores to its effective address has a memory mode, or mode acc. -/
theorem memoryMode_of_storing {i : Instr} {o : Operation} (h : i.operation = some o) (ho : o ∈ storing)
    (hm : i.operand ≠ .acc) : i.operand.kind ∈ memoryModes := by
  have key : ∀ o ∈ storing, ∀ k ∈ legalModes o, k = .accumulator ∨ k ∈ memoryModes := by decide
  refine (key o ho _ (kind_mem_legalModes h)).resolve_left fun hk => hm ?_
  revert hk
  cases i.operand <;> simp [Operand.kind]

/-- The forms of an operation whose effect is one of its value: each resolves a value and has that effect. -/
theorem exec_of_consuming {l : List Instr} {o : Operation} {effect : Byte → State} {s : State}
    (hl : ∀ i ∈ l, i.operation = some o) (ho : o ∈ consuming) (he : ∀ m, opEffect o m s = effect (operandVal m s)) :
    ∀ i ∈ l, ∃ m, resolveVal i.operand s = some m ∧ exec i s = .next (effect m) := by
  intro i hi
  exact ⟨_, resolveVal_of_consuming (hl i hi) ho s, by rw [exec_of_operation (hl i hi), he]⟩

/-! ### The forms of each operation -/

theorem operation_of_mem_formsAdc {v z : Byte} {w : Word} : ∀ i ∈ formsAdc v z w, i.operation = some .adc := by
  simp [formsAdc, Instr.operation]

theorem operation_of_mem_formsSbc {v z : Byte} {w : Word} : ∀ i ∈ formsSbc v z w, i.operation = some .sbc := by
  simp [formsSbc, Instr.operation]

theorem operation_of_mem_formsAnd {v z : Byte} {w : Word} : ∀ i ∈ formsAnd v z w, i.operation = some .and := by
  simp [formsAnd, Instr.operation]

theorem operation_of_mem_formsOra {v z : Byte} {w : Word} : ∀ i ∈ formsOra v z w, i.operation = some .ora := by
  simp [formsOra, Instr.operation]

theorem operation_of_mem_formsEor {v z : Byte} {w : Word} : ∀ i ∈ formsEor v z w, i.operation = some .eor := by
  simp [formsEor, Instr.operation]

theorem operation_of_mem_formsBit {z : Byte} {w : Word} : ∀ i ∈ formsBit z w, i.operation = some .bit := by
  simp [formsBit, Instr.operation]

theorem operation_of_mem_formsAsl {z : Byte} {w : Word} :
    ∀ i ∈ formsAsl z w, i.operation = some .asl ∧ i.operand ≠ .acc := by
  simp [formsAsl, Instr.operation, Instr.operand]

theorem operation_of_mem_formsLsr {z : Byte} {w : Word} :
    ∀ i ∈ formsLsr z w, i.operation = some .lsr ∧ i.operand ≠ .acc := by
  simp [formsLsr, Instr.operation, Instr.operand]

theorem operation_of_mem_formsRol {z : Byte} {w : Word} :
    ∀ i ∈ formsRol z w, i.operation = some .rol ∧ i.operand ≠ .acc := by
  simp [formsRol, Instr.operation, Instr.operand]

theorem operation_of_mem_formsRor {z : Byte} {w : Word} :
    ∀ i ∈ formsRor z w, i.operation = some .ror ∧ i.operand ≠ .acc := by
  simp [formsRor, Instr.operation, Instr.operand]

end Sys2Proof.Machine
end

section
/-! SUPPORT. The sums of ADC and SBC (41_alu.md R150, R151): the 9-bit temporary as a number, and carry and overflow as facts
about unsigned and signed integers. -/

namespace Sys2Proof.Machine

open Sys2Proof.Spec

/-! ### The temporary as a number -/

theorem bit16_toNat (b : Bool) : (bit16 b).toNat = b.toNat := by
  cases b <;> rfl

theorem sum9_toNat (a v : Byte) (c : Bool) : (sum9 a v c).toNat = a.toNat + v.toNat + c.toNat := by
  have ha := a.isLt
  have hv := v.isLt
  have hc := c.toNat_le
  rw [sum9, BitVec.toNat_add, BitVec.toNat_add, zext16_toNat, zext16_toNat, bit16_toNat]
  omega

theorem loByte_sum9 (a v : Byte) (c : Bool) :
    loByte (sum9 a v c) = BitVec.ofNat 8 (a.toNat + v.toNat + c.toNat) := by
  rw [← sum9_toNat]
  rfl

/-- Bit 8 of the temporary says that the unsigned sum exceeds a byte. -/
theorem sum9_carry (a v : Byte) (c : Bool) :
    (sum9 a v c).getLsbD 8 = decide (256 ≤ a.toNat + v.toNat + c.toNat) := by
  have ha := a.isLt
  have hv := v.isLt
  have hc := c.toNat_le
  rw [BitVec.getLsbD, sum9_toNat, Nat.testBit_eq_decide_div_mod_eq, decide_eq_decide]
  omega

/-! ### What ADC and SBC leave -/

/-- The state after a sum `r` (R150, R151): A and C hold its nine bits, and V is a function of the result. -/
def withSum (r : Nat) (overflow : Byte → Bool) (s : State) : State :=
  { s with
    a := BitVec.ofNat 8 r
    p := { znOf (BitVec.ofNat 8 r) s.p with c := decide (256 ≤ r), v := overflow (BitVec.ofNat 8 r) } }

theorem putSum_sum9 (a v : Byte) (c : Bool) (overflow : Byte → Bool) (s : State) :
    putSum (sum9 a v c) (overflow (loByte (sum9 a v c))) s = withSum (a.toNat + v.toNat + c.toNat) overflow s := by
  rw [putSum, loByte_sum9, sum9_carry]
  rfl

theorem exec_adc {i : Instr} (h : i.operation = some .adc) (s : State) :
    exec i s = .next (withSum (s.a.toNat + (operandVal i.operand s).toNat + s.p.c.toNat)
      (addOverflow s.a (operandVal i.operand s)) s) := by
  rw [exec_of_operation h, opEffect, putSum_sum9]

theorem exec_sbc {i : Instr} (h : i.operation = some .sbc) (s : State) :
    exec i s = .next (withSum (s.a.toNat + (255 - (operandVal i.operand s).toNat) + s.p.c.toNat)
      (subOverflow s.a (operandVal i.operand s)) s) := by
  rw [exec_of_operation h, opEffect, putSum_sum9, BitVec.toNat_not]

theorem adcOp_refuse (v : Byte) (s : State) :
    (s.p.d = true → adcOp .refuse v s = .refused .decimalMode) ∧
      (s.p.d = false → adcOp .refuse v s = adcOp .binary v s) := by
  constructor <;> intro h <;> simp [adcOp, h]

theorem sbcOp_refuse (v : Byte) (s : State) :
    (s.p.d = true → sbcOp .refuse v s = .refused .decimalMode) ∧
      (s.p.d = false → sbcOp .refuse v s = sbcOp .binary v s) := by
  constructor <;> intro h <;> simp [sbcOp, h]

/-! ### Overflow in signed integers -/

theorem byte_bit7 (b : Byte) : b.getLsbD 7 = decide (128 ≤ b.toNat) :=
  (BitVec.msb_eq_getLsbD_last b).symm.trans (BitVec.msb_eq_decide b)

/-- The overflow formula of R150 in words: the summands agree in sign, and the result does not. -/
theorem addOverflow_iff_signs (a v res : Byte) :
    addOverflow a v res = true ↔
      (128 ≤ a.toNat ↔ 128 ≤ v.toNat) ∧ ¬ (128 ≤ a.toNat ↔ 128 ≤ res.toNat) := by
  rw [addOverflow, BitVec.getLsbD_and, BitVec.getLsbD_not, BitVec.getLsbD_xor, BitVec.getLsbD_xor, byte_bit7, byte_bit7,
    byte_bit7]
  simp

/-- Overflow says that the signed sum lies outside a byte's range. -/
theorem addOverflow_iff (a v : Byte) (c : Bool) :
    addOverflow a v (BitVec.ofNat 8 (a.toNat + v.toNat + c.toNat)) = true ↔
      a.toInt + v.toInt + c.toNat < -128 ∨ 127 < a.toInt + v.toInt + c.toNat := by
  have ha := a.isLt
  have hv := v.isLt
  have hc := c.toNat_le
  rw [addOverflow_iff_signs, BitVec.toNat_ofNat, BitVec.toInt_eq_toNat_cond, BitVec.toInt_eq_toNat_cond]
  split <;> split <;> omega

/-- SBC's overflow is ADC's with the complement of the operand. -/
theorem subOverflow_eq_addOverflow_not (a v res : Byte) : subOverflow a v res = addOverflow a (~~~v) res := by
  rw [subOverflow, addOverflow, BitVec.not_xor_right, BitVec.not_not]

theorem byte_toInt_not (v : Byte) : (~~~v).toInt = -1 - v.toInt := by
  have hv := v.isLt
  rw [BitVec.toInt_eq_toNat_cond, BitVec.toInt_eq_toNat_cond, BitVec.toNat_not]
  split <;> split <;> omega

/-- SBC's overflow says that the signed difference, less the borrow `1 - c`, lies outside a byte's range. -/
theorem subOverflow_iff (a v : Byte) (c : Bool) :
    subOverflow a v (BitVec.ofNat 8 (a.toNat + (255 - v.toNat) + c.toNat)) = true ↔
      a.toInt - v.toInt - (1 - (c.toNat : Int)) < -128 ∨ 127 < a.toInt - v.toInt - (1 - (c.toNat : Int)) := by
  have hadd := addOverflow_iff a (~~~v) c
  rw [BitVec.toNat_not, byte_toInt_not, ← subOverflow_eq_addOverflow_not] at hadd
  rw [hadd]
  omega

/-! ### The sums do not read D (R161) -/

@[simp] theorem operandVal_setFlag (m : Operand) (f : Flag) (b : Bool) (s : State) :
    operandVal m (s.setFlag f b) = operandVal m s := by
  cases f <;> cases m <;> rfl

theorem opEffect_setFlag_d {o : Operation} (h : o = .adc ∨ o = .sbc) (m : Operand) (d : Bool) (s : State) :
    opEffect o m (s.setFlag .d d) = (opEffect o m s).setFlag .d d := by
  obtain rfl | rfl := h
  all_goals
    simp only [opEffect, operandVal_setFlag]
    rfl

end Sys2Proof.Machine
end

section
/-! SUPPORT. The shifts and rotates (41_alu.md R155 to R158, R160): the results as numbers, and the state that a memory form
leaves. -/

namespace Sys2Proof.Machine

open Sys2Proof.Spec

/-! ### The results as numbers -/

theorem aslByte_fst (v : Byte) (c : Bool) : (aslByte v c).1 = BitVec.ofNat 8 (v.toNat * 2) := by
  apply BitVec.eq_of_toNat_eq
  simp [aslByte, Nat.shiftLeft_eq]

theorem lsrByte_fst (v : Byte) (c : Bool) : (lsrByte v c).1 = BitVec.ofNat 8 (v.toNat / 2) := by
  apply BitVec.eq_of_toNat_eq
  have hv := v.isLt
  simp [lsrByte, Nat.shiftRight_eq_div_pow]
  omega

theorem carryByte_toNat (c : Bool) : ((BitVec.ofBool c).setWidth 8).toNat = c.toNat := by
  cases c <;> rfl

/-- The doubled byte has a zero in bit 0, so the carry is added to it. -/
theorem rolByte_fst (v : Byte) (c : Bool) : (rolByte v c).1 = BitVec.ofNat 8 (v.toNat * 2 + c.toNat) := by
  apply BitVec.eq_of_toNat_eq
  have hc : c.toNat < 2 ^ 1 := c.toNat_lt
  have hv : (v <<< 1).toNat = (v.toNat % 128) <<< 1 := by
    rw [BitVec.toNat_shiftLeft, Nat.shiftLeft_eq, Nat.shiftLeft_eq]
    omega
  rw [rolByte, BitVec.toNat_or, carryByte_toNat, hv, ← Nat.shiftLeft_add_eq_or_of_lt hc, Nat.shiftLeft_eq,
    BitVec.toNat_ofNat]
  omega

/-- The halved byte has a zero in bit 7, so 128 times the carry is added to it. -/
theorem rorByte_fst (v : Byte) (c : Bool) : (rorByte v c).1 = BitVec.ofNat 8 (v.toNat / 2 + c.toNat * 128) := by
  apply BitVec.eq_of_toNat_eq
  have hc := c.toNat_lt
  have hv : v.toNat / 2 < 2 ^ 7 := by
    have := v.isLt
    omega
  have hcarry : ((BitVec.ofBool c).setWidth 8 <<< 7).toNat = c.toNat <<< 7 := by
    rw [BitVec.toNat_shiftLeft, carryByte_toNat, Nat.shiftLeft_eq]
    omega
  have hhalf : (v >>> 1).toNat = v.toNat / 2 := by
    rw [BitVec.toNat_ushiftRight, Nat.shiftRight_eq_div_pow]
  rw [rorByte, BitVec.toNat_or, hcarry, hhalf, Nat.or_comm, ← Nat.shiftLeft_add_eq_or_of_lt hv, Nat.shiftLeft_eq,
    BitVec.toNat_ofNat]
  omega

/-! ### The memory forms -/

theorem shiftAt_of_ne_acc {m : Operand} (h : m ≠ .acc) (f : Byte → Bool → Byte × Bool) (s : State) :
    shiftAt f m s =
      { s.writeByte (operandEa m s) (f (operandVal m s) s.p.c).1 with
        p := shiftFlags (f (operandVal m s) s.p.c).1 (f (operandVal m s) s.p.c).2 s.p } := by
  cases m
  case acc => exact absurd rfl h
  all_goals rfl

/-- A memory form of a shift or rotate replaces the byte at its effective address. -/
theorem exec_shift_of_mem {l : List Instr} {o : Operation} {f : Byte → Bool → Byte × Bool} {res : Byte → Bool → Nat}
    (hl : ∀ i ∈ l, i.operation = some o ∧ i.operand ≠ .acc) (ho : o ∈ storing) (hf : opEffect o = shiftAt f)
    (hres : ∀ v c, (f v c).1 = BitVec.ofNat 8 (res v c)) (s : State) :
    ∀ i ∈ l, ∃ ea m r, resolveEa i.operand s = some ea ∧ m = s.readByte ea ∧ r = BitVec.ofNat 8 (res m s.p.c) ∧
      exec i s = .next { s.writeByte ea r with p := shiftFlags r (f m s.p.c).2 s.p } := by
  intro i hi
  obtain ⟨hop, hacc⟩ := hl i hi
  have hmode := memoryMode_of_storing hop ho hacc
  refine ⟨_, _, _, resolveEa_of_memoryMode hmode s, operandVal_of_memoryMode hmode s, hres _ _, ?_⟩
  rw [exec_of_operation hop, hf, shiftAt_of_ne_acc hacc]

end Sys2Proof.Machine
end

section
/-! SUPPORT. The statements about the ALU group (41_alu.md): O15 to O24 and O51. -/

namespace Sys2Proof.Proofs

open Sys2Proof.Machine Sys2Proof.Spec

/-- Settles O15: the nine bits of the temporary are the sum as a number. -/
theorem adcResult : Obligations.AdcResult := by
  intro v z w s
  refine ⟨rfl, fun i hi => ?_, fun m => adcOp_refuse m s⟩
  have hop := operation_of_mem_formsAdc i hi
  exact ⟨_, resolveVal_of_consuming hop (by decide) s, _, _, rfl, rfl, exec_adc hop s⟩

/-- Settles O16: carry and overflow of the sum as integer facts. -/
theorem adcIsSignedAndUnsignedAddition : Obligations.AdcIsSignedAndUnsignedAddition := by
  intro v z w s i hi
  have hop := operation_of_mem_formsAdc i hi
  exact ⟨_, _, resolveVal_of_consuming hop (by decide) s, exec_adc hop s, BitVec.toNat_ofNat _ _, decide_eq_true_iff,
    addOverflow_iff _ _ _⟩

/-- Settles O17: SBC adds the complement, which is 255 less the operand. -/
theorem sbcResult : Obligations.SbcResult := by
  intro v z w s
  refine ⟨rfl, fun i hi => ?_, fun m => sbcOp_refuse m s⟩
  have hop := operation_of_mem_formsSbc i hi
  exact ⟨_, resolveVal_of_consuming hop (by decide) s, _, _, rfl, rfl, exec_sbc hop s⟩

/-- Settles O18: the sum with the complement is the difference less the borrow, plus 256. -/
theorem sbcIsSignedAndUnsignedSubtraction : Obligations.SbcIsSignedAndUnsignedSubtraction := by
  intro v z w s i hi
  have hop := operation_of_mem_formsSbc i hi
  have hm := (operandVal i.operand s).isLt
  have hc := s.p.c.toNat_le
  refine ⟨_, _, resolveVal_of_consuming hop (by decide) s, exec_sbc hop s, ?diff, ?borrow, subOverflow_iff _ _ _⟩
  case diff =>
    simp only [withSum, BitVec.toNat_ofNat]
    omega
  case borrow =>
    simp only [withSum, decide_eq_true_eq]
    omega

/-- Settles O19: each of the three loads A with its bitwise result. -/
theorem logicResult : Obligations.LogicResult := by
  intro v z w s
  exact ⟨⟨rfl, exec_of_consuming operation_of_mem_formsAnd (by decide) fun _ => rfl⟩,
    ⟨rfl, exec_of_consuming operation_of_mem_formsOra (by decide) fun _ => rfl⟩,
    ⟨rfl, exec_of_consuming operation_of_mem_formsEor (by decide) fun _ => rfl⟩⟩

/-- Settles O24: BIT writes three flags from the byte and A. -/
theorem bitResult : Obligations.BitResult := by
  intro z w s
  exact ⟨rfl, exec_of_consuming operation_of_mem_formsBit (by decide) fun _ => rfl⟩

/-- Settles O20: a shift by one bit doubles. -/
theorem aslResult : Obligations.AslResult := by
  intro z w s
  exact ⟨rfl, rfl, ⟨_, aslByte_fst s.a s.p.c, rfl⟩,
    exec_shift_of_mem operation_of_mem_formsAsl (by decide) rfl aslByte_fst s⟩

/-- Settles O21: a shift by one bit halves. -/
theorem lsrResult : Obligations.LsrResult := by
  intro z w s
  exact ⟨rfl, rfl, ⟨_, lsrByte_fst s.a s.p.c, rfl⟩,
    exec_shift_of_mem operation_of_mem_formsLsr (by decide) rfl lsrByte_fst s⟩

/-- Settles O22: the old carry enters the doubled byte at bit 0. -/
theorem rolResult : Obligations.RolResult := by
  intro z w s
  exact ⟨rfl, rfl, ⟨_, rolByte_fst s.a s.p.c, rfl⟩,
    exec_shift_of_mem operation_of_mem_formsRol (by decide) rfl rolByte_fst s⟩

/-- Settles O23: the old carry enters the halved byte at bit 7. -/
theorem rorResult : Obligations.RorResult := by
  intro z w s
  exact ⟨rfl, rfl, ⟨_, rorByte_fst s.a s.p.c, rfl⟩,
    exec_shift_of_mem operation_of_mem_formsRor (by decide) rfl rorByte_fst s⟩

/-- Settles O51: neither sum reads D, and neither writes it. -/
theorem decimalFlagChangesNoArithmetic : Obligations.DecimalFlagChangesNoArithmetic := by
  intro v z w s t d i hi ht
  obtain ⟨o, ho, hop⟩ : ∃ o, (o = .adc ∨ o = .sbc) ∧ i.operation = some o := by
    obtain hi | hi := List.mem_append.mp hi
    · exact ⟨.adc, .inl rfl, operation_of_mem_formsAdc i hi⟩
    · exact ⟨.sbc, .inr rfl, operation_of_mem_formsSbc i hi⟩
  rw [exec_of_operation hop] at ht ⊢
  cases ht
  rw [opEffect_setFlag_d ho]

end Sys2Proof.Proofs
end

section
/-! SUPPORT. The forms of the load and store operations (42_load_store.md R180 to R185), and what an operation with memory modes
only does to its effective address. -/

namespace Sys2Proof.Machine

open Sys2Proof.Spec

/-- The forms of an operation whose effect is one of its address: each resolves an address and has that effect. -/
theorem exec_of_memoryModes {l : List Instr} {o : Operation} {effect : Word → State} {s : State}
    (hl : ∀ i ∈ l, i.operation = some o) (hmodes : ∀ k ∈ legalModes o, k ∈ memoryModes)
    (he : ∀ m, opEffect o m s = effect (operandEa m s)) :
    ∀ i ∈ l, ∃ ea, resolveEa i.operand s = some ea ∧ exec i s = .next (effect ea) := by
  intro i hi
  have hmode := hmodes _ (kind_mem_legalModes (hl i hi))
  exact ⟨_, resolveEa_of_memoryMode hmode s, by rw [exec_of_operation (hl i hi), he]⟩

theorem operation_of_mem_formsLda {v z : Byte} {w : Word} : ∀ i ∈ formsLda v z w, i.operation = some .lda := by
  simp [formsLda, Instr.operation]

theorem operation_of_mem_formsLdx {v z : Byte} {w : Word} : ∀ i ∈ formsLdx v z w, i.operation = some .ldx := by
  simp [formsLdx, Instr.operation]

theorem operation_of_mem_formsLdy {v z : Byte} {w : Word} : ∀ i ∈ formsLdy v z w, i.operation = some .ldy := by
  simp [formsLdy, Instr.operation]

theorem operation_of_mem_formsSta {z : Byte} {w : Word} : ∀ i ∈ formsSta z w, i.operation = some .sta := by
  simp [formsSta, Instr.operation]

theorem operation_of_mem_formsStx {z : Byte} {w : Word} : ∀ i ∈ formsStx z w, i.operation = some .stx := by
  simp [formsStx, Instr.operation]

theorem operation_of_mem_formsSty {z : Byte} {w : Word} : ∀ i ∈ formsSty z w, i.operation = some .sty := by
  simp [formsSty, Instr.operation]

end Sys2Proof.Machine
end

section
/-! SUPPORT. The statements about loads and stores (42_load_store.md): O25 and O26. -/

namespace Sys2Proof.Proofs

open Sys2Proof.Machine

/-- Settles O25: each load writes its register and `SetZN` with the value it consumes. -/
theorem loadResult : Obligations.LoadResult := by
  intro v z w s
  exact ⟨⟨rfl, exec_of_consuming operation_of_mem_formsLda (by decide) fun _ => rfl⟩,
    ⟨rfl, exec_of_consuming operation_of_mem_formsLdx (by decide) fun _ => rfl⟩,
    ⟨rfl, exec_of_consuming operation_of_mem_formsLdy (by decide) fun _ => rfl⟩⟩

/-- Settles O26: a store has memory modes only, and writes its register to the address of its mode. -/
theorem storeResult : Obligations.StoreResult := by
  intro z w s
  exact ⟨⟨rfl, exec_of_memoryModes operation_of_mem_formsSta (by decide) fun _ => rfl⟩,
    ⟨rfl, exec_of_memoryModes operation_of_mem_formsStx (by decide) fun _ => rfl⟩,
    ⟨rfl, exec_of_memoryModes operation_of_mem_formsSty (by decide) fun _ => rfl⟩⟩

end Sys2Proof.Proofs
end

section
/-! SUPPORT. The increments and decrements (43_incdec.md R200 to R205): plus and minus one as numbers, and what the memory forms
do to the byte at their effective address. -/

namespace Sys2Proof.Machine

open Sys2Proof.Spec

theorem byte_add_one (v : Byte) : v + 1#8 = BitVec.ofNat 8 (v.toNat + 1) := by
  apply BitVec.eq_of_toNat_eq
  rw [BitVec.toNat_add, BitVec.toNat_ofNat, BitVec.toNat_ofNat]

/-- Modulo 256, minus 1 is plus 255. -/
theorem byte_sub_one (v : Byte) : v - 1#8 = BitVec.ofNat 8 (v.toNat + 255) := by
  apply BitVec.eq_of_toNat_eq
  rw [BitVec.toNat_sub, BitVec.toNat_ofNat, BitVec.toNat_ofNat]
  omega

theorem modifyMem_eq (f : Byte → Byte) (ea : Word) (s : State) :
    modifyMem f ea s =
      { s.writeByte ea (f (s.readByte ea)) with p := znOf (f (s.readByte ea)) s.p } := rfl

/-- The forms of an operation that replaces the byte at its effective address by `f` of it; `res` gives `f` as arithmetic
modulo 256. -/
theorem exec_of_modifyMem {l : List Instr} {o : Operation} {f : Byte → Byte} {res : Byte → Nat}
    (hl : ∀ i ∈ l, i.operation = some o) (hmodes : ∀ k ∈ legalModes o, k ∈ memoryModes)
    (he : ∀ m s, opEffect o m s = modifyMem f (operandEa m s) s) (hf : ∀ v, f v = BitVec.ofNat 8 (res v)) (s : State) :
    ∀ i ∈ l, ∃ ea r, resolveEa i.operand s = some ea ∧ r = BitVec.ofNat 8 (res (s.readByte ea)) ∧
      exec i s = .next { s.writeByte ea r with p := znOf r s.p } := by
  intro i hi
  obtain ⟨ea, hea, hexec⟩ := exec_of_memoryModes (effect := fun ea => modifyMem f ea s) hl hmodes (fun m => he m s) i hi
  exact ⟨ea, _, hea, hf _, by rw [hexec, modifyMem_eq]⟩

theorem operation_of_mem_formsInc {z : Byte} {w : Word} : ∀ i ∈ formsInc z w, i.operation = some .inc := by
  simp [formsInc, Instr.operation]

theorem operation_of_mem_formsDec {z : Byte} {w : Word} : ∀ i ∈ formsDec z w, i.operation = some .dec := by
  simp [formsDec, Instr.operation]

end Sys2Proof.Machine
end

section
/-! SUPPORT. The statements about increments and decrements (43_incdec.md): O27 and O28. -/

namespace Sys2Proof.Proofs

open Sys2Proof.Machine

/-- Settles O27: INC and DEC have memory modes only, and each replaces the byte it reads. -/
theorem incDecMemoryResult : Obligations.IncDecMemoryResult := by
  intro z w s
  exact ⟨⟨rfl, exec_of_modifyMem operation_of_mem_formsInc (by decide) (f := (· + 1#8)) (fun _ _ => rfl) byte_add_one s⟩,
    ⟨rfl, exec_of_modifyMem operation_of_mem_formsDec (by decide) (f := (· - 1#8)) (fun _ _ => rfl) byte_sub_one s⟩⟩

/-- Settles O28: each of the four loads its register with the register plus or minus 1. -/
theorem incDecRegisterResult : Obligations.IncDecRegisterResult := by
  intro s
  exact ⟨⟨rfl, _, byte_add_one s.x, rfl⟩, ⟨rfl, _, byte_add_one s.y, rfl⟩,
    ⟨rfl, _, byte_sub_one s.x, rfl⟩, ⟨rfl, _, byte_sub_one s.y, rfl⟩⟩

end Sys2Proof.Proofs
end

section
/-! SUPPORT. The forms of the compare operations (44_compare.md R220 to R223), and the compare itself as a write of the flags
alone. -/

namespace Sys2Proof.Machine

open Sys2Proof.Spec

theorem compareOp_eq (r v : Byte) (s : State) : compareOp r v s = { s with p := compareFlags r v s.p } := rfl

theorem operation_of_mem_formsCmp {v z : Byte} {w : Word} : ∀ i ∈ formsCmp v z w, i.operation = some .cmp := by
  simp [formsCmp, Instr.operation]

theorem operation_of_mem_formsCpx {v z : Byte} {w : Word} : ∀ i ∈ formsCpx v z w, i.operation = some .cpx := by
  simp [formsCpx, Instr.operation]

theorem operation_of_mem_formsCpy {v z : Byte} {w : Word} : ∀ i ∈ formsCpy v z w, i.operation = some .cpy := by
  simp [formsCpy, Instr.operation]

end Sys2Proof.Machine
end

section
/-! SUPPORT. The statement about compares (44_compare.md): O29. -/

namespace Sys2Proof.Proofs

open Sys2Proof.Machine

/-- Settles O29: each compare consumes the value of its mode and writes only C, Z and N, from its register and that value. -/
theorem compareResult : Obligations.CompareResult := by
  intro v z w s
  exact ⟨⟨rfl, exec_of_consuming operation_of_mem_formsCmp (by decide) fun m => compareOp_eq s.a (operandVal m s) s⟩,
    ⟨rfl, exec_of_consuming operation_of_mem_formsCpx (by decide) fun m => compareOp_eq s.x (operandVal m s) s⟩,
    ⟨rfl, exec_of_consuming operation_of_mem_formsCpy (by decide) fun m => compareOp_eq s.y (operandVal m s) s⟩⟩

end Sys2Proof.Proofs
end

section
/-! SUPPORT. `Branch(cond)` (45_branch.md R248) for the two ways a branch tests its flag, with the target of R134 written out. -/

namespace Sys2Proof.Machine

/-- A branch that is taken when its flag is set (BMI, BVS, BCS, BEQ). -/
theorem branch_flag (flag : Bool) (off : Byte) (s : State) :
    branch flag off s = { s with pc := if flag = true then s.pc + off.signExtend 16 else s.pc } :=
  branch_eq flag off s

/-- A branch that is taken when its flag is clear (BPL, BVC, BCC, BNE). -/
theorem branch_not_flag (flag : Bool) (off : Byte) (s : State) :
    branch (!flag) off s = { s with pc := if flag = false then s.pc + off.signExtend 16 else s.pc } := by
  rw [branch_flag]
  simp only [Bool.not_eq_true']

end Sys2Proof.Machine
end

section
/-! SUPPORT. The statement about branches (45_branch.md): O30. -/

namespace Sys2Proof.Proofs

open Sys2Proof.Machine

/-- Settles O30: four of the branches test that their flag is clear, and four that it is set. -/
theorem branchResult : Obligations.BranchResult := by
  intro off s
  refine ⟨rfl, ?bpl, ?bmi, ?bvc, ?bvs, ?bcc, ?bcs, ?bne, ?beq⟩
  case bpl | bvc | bcc | bne => exact congrArg _ (branch_not_flag _ off s)
  case bmi | bvs | bcs | beq => exact congrArg _ (branch_flag _ off s)

end Sys2Proof.Proofs
end

section
/-! SUPPORT. The stack operations of the control transfers (46_control.md R262 to R265) in the words of the spec: what a call
and an interrupt entry leave, what the two returns leave, and that a pulled word is the one that was pushed. -/

namespace Sys2Proof.Machine

open Sys2Proof.Spec

/-! ### The status byte -/

/-- The pushed status byte is its number (47_stack.md R283). -/
theorem statusByte_eq_statusNat (f : Flags) (b : Bool) : statusByte f b = BitVec.ofNat 8 (statusNat f b) := by
  have key : ∀ n v b' d i z c b : Bool,
      statusByte ⟨n, v, b', d, i, z, c⟩ b = BitVec.ofNat 8 (statusNat ⟨n, v, b', d, i, z, c⟩ b) := by decide
  exact key f.n f.v f.b f.d f.i f.z f.c b

/-! ### Calls and returns -/

theorem jumpSubroutine_eq (target : Word) (s : State) :
    jumpSubroutine target s =
      { (s.writeByte (stackByte s.s) (hiByte (s.pc - 1#16))).writeByte (stackByte (s.s - 1#8)) (loByte (s.pc - 1#16)) with
        s := s.s - 2#8, pc := target } := by
  rw [jumpSubroutine, pushWord_eq]
  rfl

theorem returnSubroutine_eq (s : State) :
    returnSubroutine s =
      { s with
        s := s.s + 2#8
        pc := mkWord (s.readByte (stackByte (s.s + 2#8))) (s.readByte (stackByte (s.s + 1#8))) + 1#16 } := by
  rw [returnSubroutine, pullWord_eq]
  rfl

theorem entryMem_eq_entryPushes (ret : Word) (b : Bool) (s : State) : entryMem ret b s = (entryPushes ret b s).mem := by
  rw [entryMem_eq, statusByte_eq_statusNat]
  rfl

/-- The entry through a vector reads the vector's two bytes after the pushes (60_exceptions.md R366). -/
theorem enterInterrupt_eq_entryState (ret : Word) (b : Bool) (vec : Word) (s : State) :
    enterInterrupt ret b vec s = entryState ret b vec (vec + 1#16) s := by
  rw [enterInterrupt_eq, entryMem_eq_entryPushes]
  rfl

/-! ### A pulled word is the pushed one -/

theorem byte_sub_two_add_one (b : Byte) : b - 2#8 + 1#8 = b - 1#8 := by bv_omega

theorem byte_sub_one_ne (b : Byte) : b - 1#8 ≠ b := by bv_omega

theorem pushWord_readByte_low (w : Word) (s : State) (h : s.mem.wf = true) :
    (pushWord w s).readByte (stackAddr (s.s - 1#8)) = loByte w :=
  readByte_writeByte_same (push (hiByte w) s) _ _ (push_wf _ _ h)

/-- The low byte goes to another stack byte, at the wrap of S too. -/
theorem pushWord_readByte_high (w : Word) (s : State) (h : s.mem.wf = true) :
    (pushWord w s).readByte (stackAddr s.s) = hiByte w := by
  have hne : stackAddr (s.s - 1#8) ≠ stackAddr s.s := fun e => byte_sub_one_ne s.s (stackAddr_inj e)
  calc (pushWord w s).readByte (stackAddr s.s)
    _ = (push (hiByte w) s).readByte (stackAddr s.s) := readByte_writeByte_other (push (hiByte w) s) _ _ _ hne
    _ = hiByte w := readByte_writeByte_same s _ _ h

/-- A state with the memory and the stack pointer that a pushed word left pulls that word. -/
theorem pullWord_of_pushWord {w : Word} {s t : State} (h : s.mem.wf = true) (hmem : t.mem = (pushWord w s).mem)
    (hs : t.s = s.s - 2#8) : pullWord t = (w, { t with s := s.s }) := by
  rw [pullWord_eq, hs, byte_sub_two_add_one, BitVec.sub_add_cancel, readByte_congr hmem, readByte_congr hmem,
    pushWord_readByte_high w s h, pushWord_readByte_low w s h, mkWord_hiByte_loByte]

/-- RTS after JSR gives the state before JSR but for memory: the 1 that JSR takes from PC is added again. -/
theorem returnSubroutine_jumpSubroutine (w : Word) (s : State) (h : s.mem.wf = true) :
    returnSubroutine (jumpSubroutine w s) = { s with mem := (jumpSubroutine w s).mem } := by
  have hpull := pullWord_of_pushWord (t := jumpSubroutine w s) h rfl (jumpSubroutine_s w s)
  rw [returnSubroutine, hpull]
  simp only [State.setPc, BitVec.sub_add_cancel]
  rfl

end Sys2Proof.Machine
end

section
/-! SUPPORT. The statements about control transfers (46_control.md): O31 to O35 and O57. -/

namespace Sys2Proof.Proofs

open Sys2Proof.Machine

/-- Settles O31: JMP (ind) is JMP abs to the word at the pointer, whose high byte is in the pointer's page. -/
theorem jumpResult : Obligations.JumpResult :=
  fun w s => ⟨rfl, rfl, rfl, congrArg (fun ea => exec (.jmpAbs ea) s) (eaInd_eq w s)⟩

/-- Settles O32: JSR is the call to its operand. -/
theorem jsrResult : Obligations.JsrResult :=
  fun w s => ⟨rfl, congrArg _ (jumpSubroutine_eq w s)⟩

/-- Settles O33: RTS is the return that adds 1. -/
theorem rtsResult : Obligations.RtsResult :=
  fun s => ⟨rfl, congrArg _ (returnSubroutine_eq s)⟩

/-- Settles O34: BRK is the interrupt entry with the return address PC + 1 and the vector at 0xFFFE. -/
theorem brkResult : Obligations.BrkResult :=
  fun s => ⟨rfl, congrArg _ (enterInterrupt_eq_entryState (s.pc + 1#16) true 0xFFFE#16 s)⟩

/-- Settles O35: RTI pulls the flags, then PC. -/
theorem rtiResult : Obligations.RtiResult :=
  fun s => ⟨rfl, congrArg _ (returnFromInterrupt_eq s)⟩

/-- Settles O57: RTS pulls the word that JSR pushed. -/
theorem callThenReturn : Obligations.CallThenReturn := by
  intro w s h
  exact ⟨jumpSubroutine w s, rfl, congrArg _ (returnSubroutine_jumpSubroutine w s h)⟩

end Sys2Proof.Proofs
end

section
/-! SUPPORT. Push and pull (47_stack.md R280 to R282) in the words of the spec: what each leaves, that a pull gives back the
pushed byte, and that the instructions that push stay inside the stack page. -/

namespace Sys2Proof.Machine

open Sys2Proof.Spec

/-! ### One push, one pull -/

theorem push_eq_writeByte (v : Byte) (s : State) :
    push v s = { s.writeByte (stackByte s.s) v with s := s.s - 1#8 } := rfl

theorem push_statusByte (f : Flags) (b : Bool) (s : State) :
    push (statusByte f b) s =
      { s.writeByte (stackByte s.s) (BitVec.ofNat 8 (statusNat f b)) with s := s.s - 1#8 } := by
  rw [statusByte_eq_statusNat, push_eq_writeByte]

theorem pull_eq_readByte (s : State) : pull s = (s.readByte (stackByte (s.s + 1#8)), { s with s := s.s + 1#8 }) := rfl

theorem pullA_eq (s : State) :
    pullA s = { s with
      a := s.readByte (stackByte (s.s + 1#8))
      s := s.s + 1#8
      p := znOf (s.readByte (stackByte (s.s + 1#8))) s.p } := rfl

theorem pullFlags_eq_pulledFlags (s : State) :
    pullFlags s = { s with s := s.s + 1#8, p := pulledFlags (s.readByte (stackByte (s.s + 1#8))) } := rfl

/-- S wraps downwards inside the stack page (47_stack.md R282). -/
theorem push_of_s_zero (v : Byte) (s : State) (h : s.s = 0x00#8) :
    push v s = { s.writeByte 0x0100#16 v with s := 0xFF#8 } := by
  rw [push_eq_writeByte, h]
  rfl

/-- S wraps upwards inside the stack page (47_stack.md R282). -/
theorem pull_of_s_ff (s : State) (h : s.s = 0xFF#8) : pull s = (s.readByte 0x0100#16, { s with s := 0x00#8 }) := by
  rw [pull_eq_readByte, h]
  rfl

/-! ### Pushing leaves every byte outside the stack page -/

section
variable {k : Word} (hk : k.toNat < 0x0100 ∨ 0x01FF < k.toNat)
include hk

theorem stackAddr_ne_of_outside (sp : Byte) : stackAddr sp ≠ k := by
  rintro rfl
  rw [stackAddr_toNat] at hk
  have := sp.isLt
  omega

theorem readByte_push_outside (v : Byte) (s : State) : (push v s).readByte k = s.readByte k :=
  readByte_writeByte_other s _ _ v (stackAddr_ne_of_outside hk s.s)

theorem readByte_pushWord_outside (w : Word) (s : State) : (pushWord w s).readByte k = s.readByte k := by
  rw [pushWord, readByte_push_outside hk, readByte_push_outside hk]

theorem readByte_enterInterrupt_outside (ret : Word) (b : Bool) (vec : Word) (s : State) :
    (enterInterrupt ret b vec s).readByte k = s.readByte k :=
  calc (enterInterrupt ret b vec s).readByte k
    _ = (push (statusByte s.p b) (pushWord ret s)).readByte k := rfl
    _ = (pushWord ret s).readByte k := readByte_push_outside hk _ _
    _ = s.readByte k := readByte_pushWord_outside hk ret s

theorem readByte_opEffect_outside {o : Operation} (ho : o ∈ [.pha, .php, .jsr, .brk]) (m : Operand) (s : State) :
    (opEffect o m s).readByte k = s.readByte k := by
  have hcases : o = .pha ∨ o = .php ∨ o = .jsr ∨ o = .brk := by simpa using ho
  obtain rfl | rfl | rfl | rfl := hcases
  · exact readByte_push_outside hk s.a s
  · exact readByte_push_outside hk (statusByte s.p true) s
  · exact readByte_pushWord_outside hk (s.pc - 1#16) s
  · exact readByte_enterInterrupt_outside hk (s.pc + 1#16) true params.vecIrq s

end

/-! ### A pulled byte is the pushed one -/

/-- A state with the memory and the stack pointer that a pushed byte left pulls that byte. -/
theorem pull_of_push {v : Byte} {s t : State} (h : s.mem.wf = true) (hmem : t.mem = (push v s).mem)
    (hs : t.s = s.s - 1#8) : pull t = (v, { t with s := s.s }) := by
  have hread : (push v s).readByte (stackAddr s.s) = v := readByte_writeByte_same s _ v h
  rw [pull_eq, hs, BitVec.sub_add_cancel, readByte_congr hmem, hread]

theorem pullA_push {s : State} (h : s.mem.wf = true) (a v : Byte) :
    pullA { push v s with a := a } = { s with a := v, mem := (push v s).mem, p := znOf v s.p } := by
  have hpull := pull_of_push (t := { push v s with a := a }) h rfl rfl
  rw [pullA, hpull]
  rfl

/-- The stored B comes back as the pushed bit 4 (47_stack.md R283, R287). -/
theorem pullFlags_push_statusByte {s : State} (h : s.mem.wf = true) (f g : Flags) (b : Bool) :
    pullFlags { push (statusByte g b) s with p := f } =
      { s with mem := (push (statusByte g b) s).mem, p := { g with b := b } } := by
  have hpull := pull_of_push (t := { push (statusByte g b) s with p := f }) h rfl rfl
  rw [pullFlags, hpull]
  simp only [flagsOfByte_statusByte]
  rfl

end Sys2Proof.Machine
end

section
/-! SUPPORT. The statements about the stack (47_stack.md): O36, O37, O45 and O59. -/

namespace Sys2Proof.Proofs

open Sys2Proof.Machine

/-- Settles O36: PHA pushes A, and PHP the status byte as a number. -/
theorem pushResult : Obligations.PushResult :=
  fun s => ⟨rfl, rfl, congrArg Host.Outcome.next (push_eq_writeByte s.a s),
    congrArg Host.Outcome.next (push_statusByte s.p true s)⟩

/-- Settles O37: PLA and PLP pull the byte that the incremented S selects. -/
theorem pullResult : Obligations.PullResult :=
  fun s => ⟨_, rfl, rfl, rfl, congrArg Host.Outcome.next (pullA_eq s),
    congrArg Host.Outcome.next (pullFlags_eq_pulledFlags s)⟩

/-- Settles O45: the address of a stack byte is 256 more than S, so no push leaves the stack page. -/
theorem stackStaysInItsPage : Obligations.StackStaysInItsPage := by
  refine ⟨push_eq_writeByte, pull_eq_readByte, ?addresses, push_of_s_zero, pull_of_s_ff, ?frame⟩
  case addresses =>
    intro sp
    have haddr : (Spec.stackByte sp).toNat = 256 + sp.toNat := stackAddr_toNat sp
    have hsp := sp.isLt
    exact ⟨by omega, by omega, rfl⟩
  case frame =>
    rintro i s t ⟨o, ho, hi⟩ hexec k hk
    rw [exec_of_operation hi] at hexec
    cases hexec
    exact readByte_opEffect_outside hk ho i.operand s

/-- Settles O59: PLA and PLP pull the byte that PHA and PHP pushed. -/
theorem pushThenPull : Obligations.PushThenPull := by
  intro s h
  refine ⟨fun v => ⟨push s.a s, rfl, ?pla⟩, fun f => ⟨push (statusByte s.p true) s, rfl, ?plp⟩⟩
  case pla => exact congrArg Host.Outcome.next (pullA_push h v s.a)
  case plp => exact congrArg Host.Outcome.next (pullFlags_push_statusByte h f s.p true)

end Sys2Proof.Proofs
end

section
/-! SUPPORT. What one step of the driver can do (49_driver.md R330 to R335, 60_exceptions.md R360, R361), said once: a Halted
driver repeats its error, and a Running one has the effect of the operation at PC or halts on an illegal byte. -/

namespace Sys2Proof.Machine

/-! ### The instruction at PC and the advance of PC (49_driver.md R331 to R333) -/

theorem pcAdvance_eq (i : Instr) : pcAdvance i = if i.operation.isSome then i.length else 0 := by
  cases i <;> rfl

theorem advancePc_of_operation {i : Instr} {o : Operation} (h : i.operation = some o) (s : State) :
    advancePc i s = { s with pc := s.pc + BitVec.ofNat 16 i.length } := by
  rw [advancePc, pcAdvance_eq, h]
  rfl

theorem advancePc_illegal (op : Byte) (s : State) : advancePc (.illegal op) s = s := by
  simp [advancePc, pcAdvance, State.setPc]

/-- What the decoder reads from the three bytes at PC is what a step fetches. -/
theorem fetchInstr_of_decode {s : State} {i : Instr} {rest : List Byte}
    (h : decode [s.readByte s.pc, s.readByte (s.pc + 1#16), s.readByte (s.pc + 2#16)] = .ok (i, rest)) :
    fetchInstr s = i := by
  simp only [decode] at h
  split at h
  · cases h
  · cases h
    rfl

theorem fetchInstr_of_illegal {s : State} (hb : s.readByte s.pc ∈ illegalBytes) :
    fetchInstr s = .illegal (s.readByte s.pc) := decodeInstr_illegal _ _ _ hb

/-- The instruction that a step fetches has an operation, or the byte at PC is illegal. -/
theorem fetchInstr_cases (s : State) :
    (∃ o, (fetchInstr s).operation = some o) ∨ s.readByte s.pc ∈ illegalBytes := by
  cases ho : (fetchInstr s).operation with
  | some o => exact .inl ⟨o, rfl⟩
  | none => exact .inr (fetchInstr_illegal s ho).1

/-! ### The step -/

theorem step_of_operation {s : State} {o : Operation} (hr : s.runState = .running)
    (ho : (fetchInstr s).operation = some o) :
    step s = .next (opEffect o (fetchInstr s).operand (advancePc (fetchInstr s) s)) := by
  rw [step_running s hr, exec_of_operation ho]

theorem step_of_illegal {s : State} (hr : s.runState = .running) (hb : s.readByte s.pc ∈ illegalBytes) :
    step s = .next (haltOnIllegal (s.readByte s.pc) s) := by
  rw [step_running s hr, fetchInstr_of_illegal hb, advancePc_illegal]
  rfl

/-- What a step that completes has done: the effect of the operation at PC, or the halt on the illegal byte there. -/
theorem step_next_cases {s t : State} (h : step s = .next t) :
    s.runState = .running ∧
      ((∃ o, (fetchInstr s).operation = some o ∧
          t = opEffect o (fetchInstr s).operand (advancePc (fetchInstr s) s)) ∨
        (s.readByte s.pc ∈ illegalBytes ∧ t = haltOnIllegal (s.readByte s.pc) s)) := by
  have hr := (step_next s t h).1
  obtain ⟨o, ho⟩ | hb := fetchInstr_cases s
  · cases (step_of_operation hr ho).symm.trans h
    exact ⟨hr, .inl ⟨o, ho, rfl⟩⟩
  · cases (step_of_illegal hr hb).symm.trans h
    exact ⟨hr, .inr ⟨hb, rfl⟩⟩

/-- A step of a Running driver completes (49_driver.md R334). -/
theorem step_completes {s : State} (hr : s.runState = .running) : ∃ t, step s = .next t := by
  obtain ⟨o, ho⟩ | hb := fetchInstr_cases s
  · exact ⟨_, step_of_operation hr ho⟩
  · exact ⟨_, step_of_illegal hr hb⟩

/-! ### The step as the host sees it (49_driver.md R335) -/

theorem hostStep_of_step {s t : State} (h : step s = .next t) : hostStep s = .next (t, stepResult t) := by
  rw [hostStep, h]

theorem hostStep_halted {s : State} (h : s.runState = .halted) : hostStep s = .next (s, some s.haltOpcode) := by
  rw [hostStep, step_halted s h]

theorem stepResult_running {s : State} (h : s.runState = .running) : stepResult s = none := by
  rw [stepResult, h]

/-- A Halted driver's host-visible step changes nothing; a Running one's is its step. -/
theorem hostStep_cases (s : State) :
    (s.runState = .halted ∧ hostStep s = .next (s, some s.haltOpcode)) ∨
      ∃ t, step s = .next t ∧ hostStep s = .next (t, stepResult t) := by
  cases hr : s.runState with
  | halted => exact .inl ⟨rfl, hostStep_halted hr⟩
  | running =>
    obtain ⟨t, ht⟩ := step_completes hr
    exact .inr ⟨t, ht, hostStep_of_step ht⟩

/-- Every call of the host answers (60_exceptions.md R384). -/
theorem hostCall_completes (c : HostCall) (s : State) : ∃ t r, hostCall c s = .next (t, r) := by
  cases c with
  | act a => exact ⟨_, _, hostCall_act a s⟩
  | step => obtain ⟨-, h⟩ | ⟨t, -, h⟩ := hostStep_cases s <;> exact ⟨_, _, h⟩

end Sys2Proof.Machine
end

section
/-! SUPPORT. The bus accesses of a step and of the host's actions (49_driver.md R336), and that memory is what they make of it:
the accesses decide which bytes change, and that the canonical form is kept. -/

namespace Sys2Proof.Machine

open Sys2Proof.Spec

/-! ### What a list of accesses does to memory -/

/-- The address that an access writes to, if it is a write. -/
def writtenAddr : BusAccess → Option Word
  | .read _ => none
  | .write addr _ => some addr

theorem applyAccesses_append (l l' : List BusAccess) (m : Memory) :
    applyAccesses (l ++ l') m = applyAccesses l' (applyAccesses l m) := List.foldl_append

theorem applyAccesses_map_read (l : List Word) (m : Memory) : applyAccesses (l.map BusAccess.read) m = m := by
  induction l with
  | nil => rfl
  | cons k rest ih => exact ih

/-- Accesses change no byte but those they write. -/
theorem memRead_applyAccesses {l : List BusAccess} {k : Word} (h : k ∉ l.filterMap writtenAddr) (m : Memory) :
    memRead (applyAccesses l m) k.toNat = memRead m k.toNat := by
  induction l generalizing m with
  | nil => rfl
  | cons a rest ih =>
    cases a with
    | read j => exact ih h m
    | write j v =>
      obtain ⟨hj, hrest⟩ := not_or.mp (mt List.mem_cons.mpr h)
      calc memRead (applyAccesses rest (memWrite m j.toNat v)) k.toNat
        _ = memRead (memWrite m j.toNat v) k.toNat := ih hrest _
        _ = memRead m k.toNat := memRead_memWrite_other _ _ _ _ fun e => hj (BitVec.eq_of_toNat_eq e.symm)

theorem applyAccesses_of_no_write {l : List BusAccess} (h : l.filterMap writtenAddr = []) (m : Memory) :
    applyAccesses l m = m := by
  induction l with
  | nil => rfl
  | cons a rest ih =>
    cases a with
    | read j => exact ih h
    | write j v => cases h

theorem applyAccesses_wf (l : List BusAccess) {m : Memory} (h : m.wf = true) : (applyAccesses l m).wf = true := by
  induction l generalizing m with
  | nil => exact h
  | cons a rest ih =>
    cases a with
    | read j => exact ih h
    | write j v => exact ih (memWfFrom_memWrite m 0 _ v h (Nat.zero_le _) j.isLt)

/-! ### The reads before an instruction's own accesses -/

theorem operandReads_eq (i : Instr) (pc : Word) :
    operandReads i pc = ([pc + 1#16, pc + 2#16].take (i.length - 1)).map BusAccess.read := by
  rw [operandReads, Instr.length, Instr.operandBytes]
  cases i.operand.kind <;> rfl

/-- The pointer's address does not depend on PC. -/
theorem pointerReads_advancePc (m : Operand) (i : Instr) (s : State) :
    pointerReads m (advancePc i s) = (pointerBytes m s).map BusAccess.read := by
  cases m <;> rfl

theorem consumesValue_iff (o : Operation) : consumesValue o = true ↔ o ∈ consuming := by
  cases o <;> decide

theorem valueReads_eq (o : Operation) (m : Operand) (s : State) :
    valueReads o m s = if o ∈ consuming then (resolveEa m s).toList.map BusAccess.read else [] := by
  rw [valueReads]
  simp only [consumesValue_iff, Option.toList_map]

theorem applyAccesses_valueReads (o : Operation) (m : Operand) (s : State) (mem : Memory) :
    applyAccesses (valueReads o m s) mem = mem := by
  rw [valueReads_eq]
  split
  · exact applyAccesses_map_read _ mem
  · rfl

/-! ### An instruction's own accesses -/

theorem entryAccesses_eq_entryTrace (ret : Word) (b : Bool) (vec : Word) (s : State) :
    entryAccesses ret b vec s = entryTrace ret b vec (vec + 1#16) s := by
  rw [entryAccesses, statusByte_eq_statusNat]
  rfl

theorem entryMem_eq_applyAccesses (ret : Word) (b : Bool) (vec : Word) (s : State) :
    entryMem ret b s = applyAccesses (entryAccesses ret b vec s) s.mem := entryMem_eq ret b s

theorem storeAccess_of_memoryMode {m : Operand} (h : m.kind ∈ memoryModes) (v : Byte) (s : State) :
    storeAccess m v s = [.write (operandEa m s) v] := by
  rw [storeAccess, resolveEa_of_memoryMode h]
  rfl

/-- An operation that stores makes one access in a memory mode, the write of the byte that it leaves there. -/
theorem ownAccesses_of_storing {o : Operation} (ho : o ∈ storing) {m : Operand} (hm : m.kind ∈ memoryModes) (s : State) :
    ∃ v, ownAccesses o m s = [.write (operandEa m s) v] ∧
      (opEffect o m s).mem = memWrite s.mem (operandEa m s).toNat v := by
  have hne : m ≠ .acc := by rintro rfl; simp [Operand.kind, memoryModes] at hm
  have hval := operandVal_of_memoryMode hm s
  cases o
  case asl | lsr | rol | ror =>
    exact ⟨_, storeAccess_of_memoryMode hm _ s, by rw [opEffect, shiftAt_of_ne_acc hne]; rfl⟩
  case inc | dec =>
    exact ⟨_, storeAccess_of_memoryMode hm _ s, by rw [opEffect, modifyMem_mem, ← hval]; rfl⟩
  case sta | stx | sty => exact ⟨_, storeAccess_of_memoryMode hm _ s, rfl⟩
  all_goals exact absurd ho (by decide)

/-- In mode acc an operation that stores makes no access. -/
theorem ownAccesses_acc_of_storing {o : Operation} (ho : o ∈ storing) (s : State) : ownAccesses o .acc s = [] := by
  cases o
  case sta | stx | sty | asl | lsr | rol | ror | inc | dec => rfl
  all_goals exact absurd ho (by decide)

theorem opEffect_acc_mem_of_storing {o : Operation} (ho : o ∈ storing) (hm : .accumulator ∈ legalModes o) (s : State) :
    (opEffect o .acc s).mem = s.mem := by
  cases o
  case asl | lsr | rol | ror => rfl
  case sta | stx | sty | inc | dec => exact absurd hm (by decide)
  all_goals exact absurd ho (by decide)

/-- Any other operation makes its pushes, its pulls and its vector reads. -/
theorem ownAccesses_of_not_storing {o : Operation} (ho : o ∉ storing) (m : Operand) (s : State) :
    ownAccesses o m s = stackTrace o s := by
  cases o
  case sta | stx | sty | asl | lsr | rol | ror | inc | dec => exact absurd (by decide) ho
  case php => exact congrArg (fun v => [BusAccess.write (stackAddr s.s) v]) (statusByte_eq_statusNat s.p true)
  case brk => exact entryAccesses_eq_entryTrace _ _ _ s
  all_goals rfl

theorem stackTrace_of_storing {o : Operation} (ho : o ∈ storing) (s : State) : stackTrace o s = [] := by
  cases o
  case sta | stx | sty | asl | lsr | rol | ror | inc | dec => rfl
  all_goals exact absurd ho (by decide)

theorem opEffect_mem_of_not_storing {o : Operation} (ho : o ∉ storing) (m : Operand) (s : State) :
    (opEffect o m s).mem = applyAccesses (ownAccesses o m s) s.mem := by
  cases o
  case sta | stx | sty | asl | lsr | rol | ror | inc | dec => exact absurd (by decide) ho
  case brk => exact (enterInterrupt_mem _ _ _ s).trans (entryMem_eq_applyAccesses _ _ _ s)
  case rti => exact returnFromInterrupt_mem s
  case jsr => rw [opEffect, jumpSubroutine, pushWord_eq]; rfl
  all_goals rfl

/-- The memory that an instruction leaves is what its own accesses make of memory (49_driver.md R336). -/
theorem opEffect_mem {i : Instr} {o : Operation} (h : i.operation = some o) (s : State) :
    (opEffect o i.operand s).mem = applyAccesses (ownAccesses o i.operand s) s.mem := by
  by_cases ho : o ∈ storing
  · by_cases hacc : i.operand = .acc
    · have hm := kind_mem_legalModes h
      rw [hacc] at hm ⊢
      rw [opEffect_acc_mem_of_storing ho hm, ownAccesses_acc_of_storing ho]
      rfl
    · obtain ⟨v, hown, hmem⟩ := ownAccesses_of_storing ho (memoryMode_of_storing h ho hacc) s
      rw [hmem, hown]
      rfl
  · exact opEffect_mem_of_not_storing ho i.operand s

/-- The own accesses in the words of the spec: the write of the byte that is left at the effective address, and the use of
the stack. -/
theorem ownAccesses_eq {i : Instr} {o : Operation} (h : i.operation = some o) {s : State} (hwf : s.mem.wf = true) :
    ownAccesses o i.operand s =
      (if o ∈ storing then
        (resolveEa i.operand s).toList.map fun ea => .write ea ((opEffect o i.operand s).readByte ea) else []) ++
      stackTrace o s := by
  by_cases ho : o ∈ storing
  · rw [if_pos ho, stackTrace_of_storing ho, List.append_nil]
    by_cases hacc : i.operand = .acc
    · rw [hacc]
      exact ownAccesses_acc_of_storing ho s
    · have hm := memoryMode_of_storing h ho hacc
      obtain ⟨v, hown, hmem⟩ := ownAccesses_of_storing ho hm s
      have hread : (opEffect o i.operand s).readByte (operandEa i.operand s) = v := by
        rw [State.readByte, hmem]
        exact memRead_memWrite_same _ _ _ 0 hwf
      rw [hown, resolveEa_of_memoryMode hm]
      simp [hread]
  · rw [if_neg ho]
    exact ownAccesses_of_not_storing ho i.operand s

/-- The addresses that an instruction stores to are those that its own accesses write. -/
theorem storedAddrs_eq {i : Instr} {o : Operation} (h : i.operation = some o) (s : State) :
    storedAddrs i s = (ownAccesses o i.operand s).filterMap writtenAddr := by
  have hstore : ∀ v, (storeAccess i.operand v s).filterMap writtenAddr = (resolveEa i.operand s).toList := by
    intro v
    rw [storeAccess]
    cases resolveEa i.operand s <;> rfl
  rw [storedAddrs, h]
  cases o
  case sta | stx | sty | asl | lsr | rol | ror | inc | dec => exact (hstore _).symm
  all_goals rfl

/-! ### The accesses of a whole step and of an action -/

theorem stepAccesses_of_operation {s : State} {o : Operation} (hr : s.runState = .running)
    (ho : (fetchInstr s).operation = some o) :
    stepAccesses s = .read s.pc :: (operandReads (fetchInstr s) s.pc ++
      pointerReads (fetchInstr s).operand (advancePc (fetchInstr s) s) ++
      valueReads o (fetchInstr s).operand (advancePc (fetchInstr s) s) ++
      ownAccesses o (fetchInstr s).operand (advancePc (fetchInstr s) s)) := by
  simp only [stepAccesses, hr, instrAccesses, ho]

theorem stepAccesses_of_illegal {s : State} (hr : s.runState = .running) (hb : s.readByte s.pc ∈ illegalBytes) :
    stepAccesses s = [.read s.pc] := by
  simp only [stepAccesses, hr, fetchInstr_of_illegal hb]
  rfl

theorem stepAccesses_halted {s : State} (h : s.runState = .halted) : stepAccesses s = [] := by
  simp only [stepAccesses, h]

theorem step_mem {s t : State} (h : step s = .next t) : t.mem = applyAccesses (stepAccesses s) s.mem := by
  obtain ⟨hr, ⟨o, ho, rfl⟩ | ⟨hb, rfl⟩⟩ := step_next_cases h
  · rw [opEffect_mem ho, stepAccesses_of_operation hr ho, operandReads_eq, pointerReads_advancePc, ← List.singleton_append,
      applyAccesses_append, applyAccesses_append, applyAccesses_append, applyAccesses_append, applyAccesses_map_read,
      applyAccesses_map_read, applyAccesses_valueReads]
    rfl
  · rw [stepAccesses_of_illegal hr hb]
    rfl

theorem step_wf {s t : State} (h : step s = .next t) (hwf : s.mem.wf = true) : t.mem.wf = true := by
  rw [step_mem h]
  exact applyAccesses_wf _ hwf

/-! ### The host's actions (49_driver.md R338, 60_exceptions.md R365 to R367) -/

/-- `raise_irq` while Halted or masked does nothing; else it is an entry, with the accesses of the entry. -/
theorem raiseIrq_cases (s : State) :
    ((s.runState = .halted ∨ s.p.i = true) ∧ raiseIrq s = s ∧ actionAccesses .raiseIrq s = []) ∨
      ((s.runState = .running ∧ s.p.i = false) ∧ raiseIrq s = enterInterrupt s.pc false params.vecIrq s ∧
        actionAccesses .raiseIrq s = entryAccesses s.pc false params.vecIrq s) := by
  cases hr : s.runState <;> cases hi : s.p.i <;> simp [raiseIrq, actionAccesses, hr, hi]

/-- `raise_nmi` while Halted does nothing; else it is an entry, with the accesses of the entry. -/
theorem raiseNmi_cases (s : State) :
    (s.runState = .halted ∧ raiseNmi s = s ∧ actionAccesses .raiseNmi s = []) ∨
      (s.runState = .running ∧ raiseNmi s = enterInterrupt s.pc false params.vecNmi s ∧
        actionAccesses .raiseNmi s = entryAccesses s.pc false params.vecNmi s) := by
  cases hr : s.runState <;> simp [raiseNmi, actionAccesses, hr]

theorem raiseIrq_taken {s : State} (hr : s.runState = .running) (hi : s.p.i = false) :
    raiseIrq s = enterInterrupt s.pc false params.vecIrq s := by
  simp [raiseIrq, hr, hi]

theorem raiseNmi_taken {s : State} (hr : s.runState = .running) :
    raiseNmi s = enterInterrupt s.pc false params.vecNmi s := by
  simp [raiseNmi, hr]

theorem hostAction_mem (a : HostAction) (s : State) :
    (hostAction a s).mem = applyAccesses (actionAccesses a s) s.mem := by
  cases a with
  | raiseIrq =>
    obtain ⟨-, hs, ha⟩ | ⟨-, hs, ha⟩ := raiseIrq_cases s
    · rw [hostAction, hs, ha]
      rfl
    · rw [hostAction, hs, ha, enterInterrupt_mem, entryMem_eq_applyAccesses]
  | raiseNmi =>
    obtain ⟨-, hs, ha⟩ | ⟨-, hs, ha⟩ := raiseNmi_cases s
    · rw [hostAction, hs, ha]
      rfl
    · rw [hostAction, hs, ha, enterInterrupt_mem, entryMem_eq_applyAccesses]
  | setFlag f new => exact State.setFlag_mem s f new
  | _ => rfl

end Sys2Proof.Machine
end

section
/-! SUPPORT. Schedules of the host's calls (60_exceptions.md R368): how one unfolds, and that each call keeps memory's canonical
form. -/

namespace Sys2Proof.Machine

theorem hostCall_wf {c : HostCall} {s t : State} {r : Option Byte} (hwf : s.mem.wf = true)
    (h : hostCall c s = .next (t, r)) : t.mem.wf = true := by
  cases c with
  | act a =>
    cases h
    exact hostAction_wf a s hwf
  | step =>
    obtain ⟨-, hs⟩ | ⟨u, hu, hs⟩ := hostStep_cases s
    · cases hs.symm.trans h
      exact hwf
    · cases hs.symm.trans h
      exact step_wf hu hwf

theorem runCalls_cons {c : HostCall} {s t : State} {r : Option Byte} (h : hostCall c s = .next (t, r))
    (l : List HostCall) : runCalls (c :: l) s = runCalls l t := by
  rw [runCalls, h]

theorem runCalls_wf {l : List HostCall} {s t : State} (hwf : s.mem.wf = true) (h : runCalls l s = .next t) :
    t.mem.wf = true := by
  induction l generalizing s with
  | nil =>
    cases h
    exact hwf
  | cons c rest ih =>
    obtain ⟨u, r, hc⟩ := hostCall_completes c s
    rw [runCalls_cons hc] at h
    exact ih (hostCall_wf hwf hc) h

end Sys2Proof.Machine
end

section
/-! SUPPORT. Several drivers over one memory (60_exceptions.md R384): a call on one of them is the call on a single core, and
every schedule completes and keeps memory's canonical form. -/

namespace Sys2Proof.Machine

theorem systemCall_of_core {k : Nat} {c : HostCall} {σ : System} {d : CoreState} {t : State} {r : Option Byte}
    (hd : σ.cores[k]? = some d) (h : hostCall c (joinState d σ.mem) = .next (t, r)) :
    systemCall k c σ = .next ({ cores := σ.cores.set k (coreOf t), mem := t.mem }, r) := by
  simp only [systemCall, hd, h]

theorem systemCall_of_no_core {k : Nat} {σ : System} (hd : σ.cores[k]? = none) (c : HostCall) :
    systemCall k c σ = .next (σ, none) := by
  simp only [systemCall, hd]

/-- A call on a driver that exists is the call on that one core, with its answer put back; on another it is no move. -/
theorem systemCall_cases (k : Nat) (c : HostCall) (σ : System) :
    (σ.cores[k]? = none ∧ systemCall k c σ = .next (σ, none)) ∨
      ∃ d t r, σ.cores[k]? = some d ∧ hostCall c (joinState d σ.mem) = .next (t, r) ∧
        systemCall k c σ = .next ({ cores := σ.cores.set k (coreOf t), mem := t.mem }, r) := by
  cases hd : σ.cores[k]? with
  | none => exact .inl ⟨rfl, systemCall_of_no_core hd c⟩
  | some d =>
    obtain ⟨t, r, h⟩ := hostCall_completes c (joinState d σ.mem)
    exact .inr ⟨d, t, r, rfl, h, systemCall_of_core hd h⟩

theorem systemCall_completes (k : Nat) (c : HostCall) (σ : System) : ∃ τ r, systemCall k c σ = .next (τ, r) := by
  obtain ⟨-, h⟩ | ⟨d, t, r, -, -, h⟩ := systemCall_cases k c σ <;> exact ⟨_, _, h⟩

theorem systemCall_wf {k : Nat} {c : HostCall} {σ τ : System} {r : Option Byte} (hwf : σ.mem.wf = true)
    (h : systemCall k c σ = .next (τ, r)) : τ.mem.wf = true := by
  obtain ⟨-, hs⟩ | ⟨d, t, r', -, hc, hs⟩ := systemCall_cases k c σ
  · cases hs.symm.trans h
    exact hwf
  · cases hs.symm.trans h
    exact hostCall_wf (s := joinState d σ.mem) hwf hc

theorem runSystem_cons {k : Nat} {c : HostCall} {σ τ : System} {r : Option Byte} (h : systemCall k c σ = .next (τ, r))
    (l : List (Nat × HostCall)) : runSystem ((k, c) :: l) σ = runSystem l τ := by
  rw [runSystem, h]

theorem runSystem_completes (l : List (Nat × HostCall)) (σ : System) : ∃ τ, runSystem l σ = .next τ := by
  induction l generalizing σ with
  | nil => exact ⟨σ, rfl⟩
  | cons kc rest ih =>
    obtain ⟨τ, r, h⟩ := systemCall_completes kc.1 kc.2 σ
    rw [runSystem_cons h]
    exact ih τ

theorem runSystem_wf {l : List (Nat × HostCall)} {σ τ : System} (hwf : σ.mem.wf = true)
    (h : runSystem l σ = .next τ) : τ.mem.wf = true := by
  induction l generalizing σ with
  | nil =>
    cases h
    exact hwf
  | cons kc rest ih =>
    obtain ⟨σ', r, hc⟩ := systemCall_completes kc.1 kc.2 σ
    rw [runSystem_cons hc] at h
    exact ih (systemCall_wf hwf hc) h

end Sys2Proof.Machine
end

section
/-! SUPPORT. Runs of a launch (49_driver.md R339): a run goes on by a step of a Running driver or has ended at an end, and where
the host only steps it ends at the first end. -/

namespace Sys2Proof.Machine

/-! ### The host's part and the next step -/

theorem runEnd_eq_some_iff_isEnd (endPc : Word) (e : RunEnd) (s : State) :
    runEnd endPc s = some e ↔ Spec.isEnd endPc e s := by
  cases e <;> cases hr : s.runState <;> simp [runEnd, Spec.isEnd, hr]

/-- The host's part of a run that goes on leaves a Running driver away from END_PC. -/
theorem actUntilEnd_going {endPc : Word} {l : List HostAction} {s t : State} (h : actUntilEnd endPc l s = .going t) :
    t.runState = .running ∧ t.pc ≠ endPc := by
  obtain ⟨e, u, hu, -⟩ | ⟨hg, hn⟩ := actUntilEnd_cases endPc l s
  · cases hu.symm.trans h
  · cases hg.symm.trans h
    exact (runEnd_eq_none endPc _).mp hn

theorem actUntilEnd_ended {endPc : Word} {l : List HostAction} {s t : State} {e : RunEnd}
    (h : actUntilEnd endPc l s = .ended e t) : runEnd endPc t = some e := by
  obtain ⟨e', u, hu, he⟩ | ⟨hg, -⟩ := actUntilEnd_cases endPc l s
  · cases hu.symm.trans h
    exact he
  · cases hg.symm.trans h

theorem runSteps_of_ended {endPc : Word} {schedule : List (List HostAction)} {s t : State} {e : RunEnd}
    (h : actUntilEnd endPc (schedule.head?.getD []) s = .ended e t) (n : Nat) :
    runSteps endPc n schedule s = .next (.ended e t) := by
  cases n <;> simp only [runSteps, h]

theorem runSteps_succ_of_going {endPc : Word} {schedule : List (List HostAction)} {s t u : State}
    (h : actUntilEnd endPc (schedule.head?.getD []) s = .going t) (hu : step t = .next u) (n : Nat) :
    runSteps endPc (n + 1) schedule s = runSteps endPc n schedule.tail u := by
  simp only [runSteps, h, hu]

/-- A run ends in the host's part before its first step, or that part leaves a Running driver, whose step completes. -/
theorem actUntilEnd_step_cases (endPc : Word) (l : List HostAction) (s : State) :
    (∃ e t, actUntilEnd endPc l s = .ended e t) ∨ ∃ t u, actUntilEnd endPc l s = .going t ∧ step t = .next u := by
  cases h : actUntilEnd endPc l s with
  | ended e t => exact .inl ⟨e, t, rfl⟩
  | going t =>
    obtain ⟨u, hu⟩ := step_completes (actUntilEnd_going h).1
    exact .inr ⟨t, u, rfl, hu⟩

/-! ### What a run keeps, and how it ends -/

theorem runSteps_wf {endPc : Word} {n : Nat} {schedule : List (List HostAction)} {s : State} {p : Progress}
    (hwf : s.mem.wf = true) (h : runSteps endPc n schedule s = .next p) : p.state.mem.wf = true := by
  have hact := actUntilEnd_wf endPc (schedule.head?.getD []) s hwf
  induction n generalizing schedule s with
  | zero =>
    cases h
    exact hact
  | succ n ih =>
    obtain ⟨e, t, he⟩ | ⟨t, u, hg, hu⟩ := actUntilEnd_step_cases endPc (schedule.head?.getD []) s
    · cases (runSteps_of_ended he (n + 1)).symm.trans h
      exact he ▸ hact
    · rw [runSteps_succ_of_going hg hu] at h
      rw [hg] at hact
      have huwf := step_wf hu hact
      exact ih huwf h (actUntilEnd_wf _ _ u huwf)

/-- A run that goes on is between two steps, at no end. -/
theorem runSteps_going {endPc : Word} {n : Nat} {schedule : List (List HostAction)} {s t : State}
    (h : runSteps endPc n schedule s = .next (.going t)) : t.runState = .running ∧ t.pc ≠ endPc := by
  induction n generalizing schedule s with
  | zero => exact actUntilEnd_going (Host.Outcome.next.inj h)
  | succ n ih =>
    obtain ⟨e, u, he⟩ | ⟨u, v, hg, hv⟩ := actUntilEnd_step_cases endPc (schedule.head?.getD []) s
    · cases (runSteps_of_ended he (n + 1)).symm.trans h
    · rw [runSteps_succ_of_going hg hv] at h
      exact ih h

/-- A run that has ended is at an end, and more steps give the same. -/
theorem runSteps_ended {endPc : Word} {n : Nat} {schedule : List (List HostAction)} {s t : State} {e : RunEnd}
    (h : runSteps endPc n schedule s = .next (.ended e t)) :
    runEnd endPc t = some e ∧ ∀ m, n ≤ m → runSteps endPc m schedule s = .next (.ended e t) := by
  induction n generalizing schedule s with
  | zero =>
    have hact := Host.Outcome.next.inj h
    exact ⟨actUntilEnd_ended hact, fun m _ => runSteps_of_ended hact m⟩
  | succ n ih =>
    obtain ⟨e', u, he⟩ | ⟨u, v, hg, hv⟩ := actUntilEnd_step_cases endPc (schedule.head?.getD []) s
    · cases (runSteps_of_ended he (n + 1)).symm.trans h
      exact ⟨actUntilEnd_ended he, fun m _ => runSteps_of_ended he m⟩
    · rw [runSteps_succ_of_going hg hv] at h
      obtain ⟨hend, hmore⟩ := ih h
      refine ⟨hend, fun m hm => ?_⟩
      obtain ⟨m, rfl⟩ : ∃ m', m = m' + 1 := ⟨m - 1, by omega⟩
      rw [runSteps_succ_of_going hg hv]
      exact hmore m (by omega)

/-! ### The first end of a run in which the host only steps -/

/-- The state after `m` steps is an end, and no state before it is. -/
def FirstEndAt (endPc : Word) (e : RunEnd) (t : State) (m : Nat) (s : State) : Prop :=
  Spec.afterSteps m s = some t ∧ Spec.isEnd endPc e t ∧
    ∀ j u d, j < m → Spec.afterSteps j s = some u → ¬ Spec.isEnd endPc d u

theorem afterSteps_succ {s u : State} (h : step s = .next u) (n : Nat) :
    Spec.afterSteps (n + 1) s = Spec.afterSteps n u := by
  rw [Spec.afterSteps, h]

theorem firstEndAt_of_end {endPc : Word} {s : State} {e' : RunEnd} (h : runEnd endPc s = some e') (e : RunEnd)
    (t : State) (m : Nat) : FirstEndAt endPc e t m s ↔ m = 0 ∧ t = s ∧ e = e' := by
  have hs := (runEnd_eq_some_iff_isEnd endPc e' s).mp h
  constructor
  · rintro ⟨ht, hend, hfirst⟩
    obtain rfl : m = 0 := by
      by_contra hm
      exact hfirst 0 s e' (Nat.pos_of_ne_zero hm) rfl hs
    cases ht
    rw [← runEnd_eq_some_iff_isEnd, h] at hend
    exact ⟨rfl, rfl, (Option.some.inj hend).symm⟩
  · rintro ⟨rfl, rfl, rfl⟩
    exact ⟨rfl, hs, fun j _ _ hj => absurd hj (Nat.not_lt_zero j)⟩

theorem firstEndAt_of_step {endPc : Word} {s u : State} (hn : runEnd endPc s = none) (hu : step s = .next u)
    (e : RunEnd) (t : State) (m : Nat) :
    FirstEndAt endPc e t m s ↔ ∃ k, m = k + 1 ∧ FirstEndAt endPc e t k u := by
  have hs : ∀ d, ¬ Spec.isEnd endPc d s := fun d hd => by
    rw [← runEnd_eq_some_iff_isEnd, hn] at hd
    cases hd
  constructor
  · rintro ⟨ht, hend, hfirst⟩
    cases m with
    | zero =>
      cases ht
      exact absurd hend (hs e)
    | succ k =>
      rw [afterSteps_succ hu] at ht
      exact ⟨k, rfl, ht, hend, fun j v d hj hv =>
        hfirst (j + 1) v d (Nat.succ_lt_succ hj) ((afterSteps_succ hu j).trans hv)⟩
  · rintro ⟨k, rfl, ht, hend, hfirst⟩
    refine ⟨(afterSteps_succ hu k).trans ht, hend, fun j v d hj hv => ?_⟩
    cases j with
    | zero =>
      cases hv
      exact hs d
    | succ j => exact hfirst j v d (Nat.lt_of_succ_lt_succ hj) ((afterSteps_succ hu j).symm.trans hv)

/-- A start that is an end is the only end of the run. -/
theorem runSteps_nil_ended_iff_of_end {endPc : Word} {s : State} {e' : RunEnd} (hs : runEnd endPc s = some e')
    (e : RunEnd) (t : State) (n : Nat) :
    runSteps endPc n [] s = .next (.ended e t) ↔ ∃ m, m ≤ n ∧ FirstEndAt endPc e t m s := by
  have hact : actUntilEnd endPc [] s = .ended e' s := by simp only [actUntilEnd, hs]
  rw [runSteps_of_ended hact]
  simp only [firstEndAt_of_end hs, Host.Outcome.next.injEq, Progress.ended.injEq]
  constructor
  · rintro ⟨rfl, rfl⟩
    exact ⟨0, Nat.zero_le n, rfl, rfl, rfl⟩
  · rintro ⟨_, -, -, rfl, rfl⟩
    exact ⟨rfl, rfl⟩

/-- With nothing for the host to do, the run ends at the first state that is an end. -/
theorem runSteps_nil_ended_iff (endPc : Word) (e : RunEnd) (t : State) (n : Nat) (s : State) :
    runSteps endPc n [] s = .next (.ended e t) ↔ ∃ m, m ≤ n ∧ FirstEndAt endPc e t m s := by
  induction n generalizing s with
  | zero =>
    cases hs : runEnd endPc s with
    | some e' => exact runSteps_nil_ended_iff_of_end hs e t 0
    | none =>
      have hgo : runSteps endPc 0 [] s = .next (.going s) := by simp [runSteps, actUntilEnd, hs]
      obtain ⟨u, hu⟩ := step_completes ((runEnd_eq_none endPc s).mp hs).1
      simp [hgo, firstEndAt_of_step hs hu]
  | succ n ih =>
    cases hs : runEnd endPc s with
    | some e' => exact runSteps_nil_ended_iff_of_end hs e t (n + 1)
    | none =>
      have hact : actUntilEnd endPc [] s = .going s := by simp only [actUntilEnd, hs]
      obtain ⟨u, hu⟩ := step_completes ((runEnd_eq_none endPc s).mp hs).1
      simp only [runSteps_succ_of_going (schedule := []) hact hu, List.tail_nil, ih, firstEndAt_of_step hs hu]
      constructor
      · rintro ⟨k, hk, h⟩
        exact ⟨k + 1, Nat.succ_le_succ hk, k, rfl, h⟩
      · rintro ⟨_, hm, k, rfl, h⟩
        exact ⟨k, Nat.le_of_succ_le_succ hm, h⟩

end Sys2Proof.Machine
end

section
/-! SUPPORT. Interrupt entry and return (60_exceptions.md R366, R370), and what the host's actions leave unchanged (R362,
49_driver.md R338). -/

namespace Sys2Proof.Machine

open Sys2Proof.Spec

/-! ### RTI after an entry -/

theorem byte_sub_three_add_one (b : Byte) : b - 3#8 + 1#8 = b - 2#8 := by bv_omega

theorem byte_sub_three_add_two (b : Byte) : b - 3#8 + 2#8 = b - 1#8 := by bv_omega

theorem pushWord_s (w : Word) (s : State) : (pushWord w s).s = s.s - 2#8 := byte_sub_one_sub_one s.s

/-- A push leaves the stack bytes of every other value of S. -/
theorem readByte_push_of_ne {sp : Byte} {s : State} (h : s.s ≠ sp) (v : Byte) :
    (push v s).readByte (stackAddr sp) = s.readByte (stackAddr sp) :=
  readByte_writeByte_other s _ _ v fun e => h (stackAddr_inj e)

section
variable {s : State} (h : s.mem.wf = true) (ret : Word) (b : Bool) (vec : Word)
include h

theorem enterInterrupt_readByte_status :
    (enterInterrupt ret b vec s).readByte (stackAddr (s.s - 2#8)) = statusByte s.p b := by
  rw [← pushWord_s ret s]
  exact readByte_writeByte_same (pushWord ret s) _ _ (pushWord_wf ret s h)

theorem enterInterrupt_readByte_low :
    (enterInterrupt ret b vec s).readByte (stackAddr (s.s - 1#8)) = loByte ret := by
  have hne : (pushWord ret s).s ≠ s.s - 1#8 := by
    rw [pushWord_s]
    bv_omega
  exact (readByte_push_of_ne hne (statusByte s.p b)).trans (pushWord_readByte_low ret s h)

theorem enterInterrupt_readByte_high :
    (enterInterrupt ret b vec s).readByte (stackAddr s.s) = hiByte ret := by
  have hne : (pushWord ret s).s ≠ s.s := by
    rw [pushWord_s]
    bv_omega
  exact (readByte_push_of_ne hne (statusByte s.p b)).trans (pushWord_readByte_high ret s h)

/-- RTI after an entry gives the state before it, with the return address in PC, the pushed bit 4 as the stored B, and the
memory of the entry. -/
theorem returnFromInterrupt_enterInterrupt :
    returnFromInterrupt (enterInterrupt ret b vec s) =
      { s with mem := (enterInterrupt ret b vec s).mem, pc := ret, p := { s.p with b := b } } := by
  rw [returnFromInterrupt_eq, enterInterrupt_s, byte_sub_three_add_one, byte_sub_three_add_two, BitVec.sub_add_cancel,
    enterInterrupt_readByte_status h, enterInterrupt_readByte_low h, enterInterrupt_readByte_high h, mkWord_hiByte_loByte,
    flagsOfByte_statusByte, enterInterrupt_eq]

theorem exec_rti_enterInterrupt :
    exec .rti (enterInterrupt ret b vec s) =
      .next { s with mem := (enterInterrupt ret b vec s).mem, pc := ret, p := { s.p with b := b } } :=
  congrArg Host.Outcome.next (returnFromInterrupt_enterInterrupt h ret b vec)

end

/-! ### The entry of an NMI -/

theorem hostCall_raiseNmi_running {s : State} (hr : s.runState = .running) :
    hostCall (.act .raiseNmi) s = .next (entryState s.pc false 0xFFFA#16 0xFFFB#16 s, none) := by
  rw [hostCall_act, hostAction, raiseNmi_taken hr, enterInterrupt_eq_entryState]
  rfl

/-! ### The run state and the flags under the host's actions -/

theorem raiseIrq_runState (s : State) : (raiseIrq s).runState = s.runState := by
  obtain ⟨-, hs, -⟩ | ⟨-, hs, -⟩ := raiseIrq_cases s <;> rw [hs]
  exact enterInterrupt_runState _ _ _ s

theorem raiseNmi_runState (s : State) : (raiseNmi s).runState = s.runState := by
  obtain ⟨-, hs, -⟩ | ⟨-, hs, -⟩ := raiseNmi_cases s <;> rw [hs]
  exact enterInterrupt_runState _ _ _ s

/-- A call on a Halted driver leaves it Halted unless it is a reset or a write of PC (60_exceptions.md R362). -/
theorem hostCall_halted_running_iff {c : HostCall} {s t : State} {r : Option Byte} (hr : s.runState = .halted)
    (h : hostCall c s = .next (t, r)) :
    t.runState = .running ↔ (∃ u, c = .act (.reset u)) ∨ ∃ v u, c = .act (.setPc v u) := by
  cases c with
  | step =>
    cases (hostStep_halted hr).symm.trans h
    simp [hr]
  | act a =>
    cases h
    cases a
    case reset | setPc => simp [hostAction, applyReset, hostSetPc]
    case raiseIrq => simp [hostAction, raiseIrq_runState, hr]
    case raiseNmi => simp [hostAction, raiseNmi_runState, hr]
    all_goals simp [hostAction, hostSetP, hr]

theorem State.setFlag_eq (s : State) (f : Flag) (b : Bool) : s.setFlag f b = { s with p := (s.setFlag f b).p } := by
  cases f <;> rfl

/-- The host reads P as the number of its flags with the stored B (10_state.md R25, R26). -/
theorem readP_eq_statusNat (s : State) : s.readP = BitVec.ofNat 8 (statusNat s.p s.p.b) :=
  statusByte_eq_statusNat s.p s.p.b

/-- A byte written to P is read back with bit 5 set (10_state.md R26). -/
theorem statusByte_pulledFlags (v : Byte) : statusByte (pulledFlags v) (v.getLsbD 4) = v ||| 0x20#8 := by
  revert v
  decide

end Sys2Proof.Machine
end

section
/-! SUPPORT. The statements about register transfers and flags (48_transfer_flag.md): O38 to O40. -/

namespace Sys2Proof.Proofs

open Sys2Proof.Machine

/-- Settles O38: each transfer but TXS loads its register with its source, and a load sets Z and N; TXS writes S alone. -/
theorem transferResult : Obligations.TransferResult :=
  fun _ => ⟨rfl, rfl, rfl, rfl, rfl, rfl, rfl⟩

/-- Settles O39: each of the seven is the write of one flag. -/
theorem flagOpResult : Obligations.FlagOpResult :=
  fun _ => ⟨rfl, rfl, rfl, rfl, rfl, rfl, rfl, rfl⟩

/-- Settles O40: the byte 0xEA decodes to NOP whatever follows it, so a step there advances PC and has no other effect. -/
theorem nopResult : Obligations.NopResult := by
  intro s
  refine ⟨rfl, rfl, fun hr hb => ?_⟩
  have hf : fetchInstr s = .nop := by
    rw [fetchInstr, hb]
    exact decodeInstr_own .nop .nop rfl _ _ (fun h => absurd h (by decide)) (fun h => absurd h (by decide))
  rw [step_running s hr, hf]
  rfl

end Sys2Proof.Proofs
end

section
/-! SUPPORT. The statements about the driver's step (49_driver.md): O6, O9, O10, O43, O44 and O48. -/

namespace Sys2Proof.Proofs

open Sys2Proof.Machine Sys2Proof.Spec

/-- Settles O6: the step fetches what the decoder reads, and PC advances by the length of an instruction with an operation. -/
theorem stepRunsDecodedInstruction : Obligations.StepRunsDecodedInstruction := by
  intro s i rest hr hd
  rw [step_running s hr, fetchInstr_of_decode hd, advancePc, pcAdvance_eq]
  rfl

/-- Settles O9: `exec` has the effect of the operation, which keeps the run state, or halts on an illegal byte. -/
theorem executionIsTotal : Obligations.ExecutionIsTotal := by
  intro i s
  obtain ⟨o, -, he⟩ | ⟨op, rfl, he⟩ := exec_cases i s
  · exact ⟨_, he, fun _ => opEffect_runState o _ s⟩
  · exact ⟨_, he, nofun⟩

/-- Settles O10: a Halted driver returns its byte again; a Running one completes an operation and returns Ok, or halts on the
illegal byte at PC and returns it. -/
theorem stepReturnsOkOrError : Obligations.StepReturnsOkOrError := by
  intro s
  cases hr : s.runState with
  | halted =>
    refine ⟨s, some s.haltOpcode, hostStep_halted hr, nofun, fun b hb => ?_⟩
    cases hb
    exact ⟨by rw [← hr], nofun, fun hinv => (hinv.haltWf hr).2.symm⟩
  | running =>
    obtain ⟨o, ho⟩ | hb := fetchInstr_cases s
    · have hstep := step_of_operation hr ho
      have hrun := (opEffect_runState o (fetchInstr s).operand (advancePc (fetchInstr s) s)).trans hr
      refine ⟨_, none, ?_, fun _ => ⟨rfl, hrun, ?_⟩, fun b h => nomatch h⟩
      · rw [hostStep_of_step hstep, stepResult_running hrun]
      · exact (step_running s hr).symm.trans hstep
    · refine ⟨_, some (s.readByte s.pc), hostStep_of_step (step_of_illegal hr hb), nofun, fun b h => ?_⟩
      cases h
      exact ⟨rfl, fun _ => ⟨rfl, hb⟩, fun _ => rfl⟩

/-- Settles O43: an instruction's memory is what its own accesses make of it, and these write to the stored addresses. -/
theorem memoryFrame : Obligations.MemoryFrame := by
  intro i s t h
  obtain ⟨o, ho, rfl⟩ | ⟨op, rfl, rfl⟩ := exec_next_cases h
  · rw [storedAddrs_eq ho]
    refine ⟨fun k hk => ?_, fun hnil => ?_⟩
    · rw [State.readByte, opEffect_mem ho]
      exact memRead_applyAccesses hk s.mem
    · rw [opEffect_mem ho]
      exact applyAccesses_of_no_write hnil s.mem
  · exact ⟨fun _ _ => rfl, fun _ => rfl⟩

/-- Settles O44: each part of a step's trace is the one that R336 lists, and memory is what the accesses make of it. -/
theorem stepMemoryIsItsBusTrace : Obligations.StepMemoryIsItsBusTrace := by
  refine ⟨fun _ _ => step_mem, ?trace, hostAction_mem⟩
  case trace =>
    rintro s s' t i o rest hwf hr hd ho rfl ht
    obtain rfl := fetchInstr_of_decode hd
    cases (step_of_operation hr ho).symm.trans ht
    rw [stepAccesses_of_operation hr ho, ← advancePc_of_operation ho, operandReads_eq, pointerReads_advancePc,
      valueReads_eq, ownAccesses_eq ho (s := advancePc (fetchInstr s) s) hwf]
    simp only [List.cons_append, List.append_assoc]

/-- Settles O48: every action and every step keeps the form, so every list of them does. -/
theorem hostCallsKeepMemoryForm : Obligations.HostCallsKeepMemoryForm :=
  ⟨fun _ _ _ _ => hostCall_wf, fun _ _ _ => runCalls_wf, fun l _ _ h => runSteps_wf (launch_start_wf l h),
    fun _ _ _ => runSystem_wf⟩

end Sys2Proof.Proofs
end

section
/-! SUPPORT. The statements about exceptions and interrupts (60_exceptions.md): O7, O8, O46, O54 to O56, O58 and O60. -/

namespace Sys2Proof.Proofs

open Sys2Proof.Machine Sys2Proof.Spec

/-- Settles O46: an operation leaves the driver Running, and an illegal byte halts it at that byte; neither breaks the form of
memory. -/
theorem stepKeepsInvariant : Obligations.StepKeepsInvariant := by
  intro s t hinv hstep
  refine ⟨step_wf hstep hinv.memWf, fun hhalt => ?_⟩
  obtain ⟨hr, ⟨o, -, rfl⟩ | ⟨hb, rfl⟩⟩ := step_next_cases hstep
  · rw [opEffect_runState, advancePc_runState, hr] at hhalt
    cases hhalt
  · exact ⟨hb, rfl⟩

/-- Settles O7: the step on an illegal byte is the halt, whose only access is the opcode read. -/
theorem illegalOpcodeHalts : Obligations.IllegalOpcodeHalts := by
  intro s
  refine ⟨fun op => rfl, fun hr hb => ?_⟩
  have hstep := step_of_illegal hr hb
  exact ⟨hstep, hostStep_of_step hstep, stepAccesses_of_illegal hr hb⟩

/-- Settles O8: the step of a Halted driver is its fault, and makes no access. -/
theorem haltedStepReturnsErrorAgain : Obligations.HaltedStepReturnsErrorAgain :=
  fun s hr => ⟨step_halted s hr, hostStep_halted hr, stepAccesses_halted hr⟩

/-- Settles O54: the call is dropped, or it is the entry through 0xFFFE. -/
theorem raiseIrqResult : Obligations.RaiseIrqResult := by
  intro s
  rw [hostCall_act, hostAction]
  obtain ⟨hdrop, hs, ha⟩ | ⟨⟨hr, hi⟩, hs, ha⟩ := raiseIrq_cases s
  · rw [hs, ha]
    refine ⟨fun _ => ⟨rfl, rfl⟩, fun _ => ⟨rfl, rfl⟩, fun hr hi => ?_⟩
    simp [hr, hi] at hdrop
  · rw [hs, ha, enterInterrupt_eq_entryState, entryAccesses_eq_entryTrace, hr, hi]
    exact ⟨nofun, nofun, fun _ _ => ⟨rfl, rfl⟩⟩

/-- Settles O55: the call is dropped, or it is the entry through 0xFFFA; an entry leaves the driver Running, so a second call
makes its own. -/
theorem raiseNmiResult : Obligations.RaiseNmiResult := by
  intro s
  obtain ⟨hr, hs, ha⟩ | ⟨hr, hs, ha⟩ := raiseNmi_cases s
  · rw [hostCall_act, hostAction, hs, ha, hr]
    exact ⟨fun _ => ⟨rfl, rfl⟩, nofun⟩
  · refine ⟨fun h => absurd (hr.symm.trans h) nofun, fun _ => ⟨hostCall_raiseNmi_running hr, ?accesses, ?twice⟩⟩
    case accesses =>
      rw [ha, entryAccesses_eq_entryTrace]
      rfl
    case twice =>
      rintro t rfl
      have hrun : (entryState s.pc false 0xFFFA#16 0xFFFB#16 s).runState = .running := hr
      rw [runCalls_cons (hostCall_raiseNmi_running hr), runCalls_cons (hostCall_raiseNmi_running hrun)]
      rfl

/-- Settles O56: what each action of the host writes, and the run state that each call leaves. -/
theorem onlyResetAndPcWriteLeaveHalted : Obligations.OnlyResetAndPcWriteLeaveHalted := by
  refine ⟨fun c s t r hr => hostCall_halted_running_iff hr, fun _ _ _ => rfl, fun _ _ => ⟨rfl, rfl, rfl, rfl, rfl⟩,
    fun _ _ _ _ => ⟨rfl, rfl⟩, ?flag, fun s v => ⟨readP_eq_statusNat s, statusByte_pulledFlags v⟩⟩
  case flag =>
    intro s f new
    exact ⟨s.setFlag f new, rfl, State.setFlag_eq s f new, State.getFlag_setFlag_same s f new,
      fun g hg => State.getFlag_setFlag_other s f g new hg.symm, rfl⟩

/-- Settles O58: RTI pulls what the entry pushed, whatever made the entry. -/
theorem interruptThenReturn : Obligations.InterruptThenReturn := by
  intro s h
  refine ⟨fun hr hi => ?irq, fun hr => ?nmi, enterInterrupt (s.pc + 1#16) true params.vecIrq s, rfl, ?brk⟩
  case irq =>
    rw [raiseIrq_taken hr hi]
    exact exec_rti_enterInterrupt h s.pc false params.vecIrq
  case nmi =>
    rw [raiseNmi_taken hr]
    exact exec_rti_enterInterrupt h s.pc false params.vecNmi
  case brk => exact exec_rti_enterInterrupt h (s.pc + 1#16) true params.vecIrq

/-- Settles O60: a call puts the answer of the one core back in its place, and every schedule of calls completes. -/
theorem coreStepTouchesOneCore : Obligations.CoreStepTouchesOneCore := by
  refine ⟨fun k c σ => ?call, runSystem_completes, fun draws m => ⟨rfl, fun k regs u h => ?launch⟩⟩
  case call =>
    obtain ⟨hd, hc⟩ | ⟨d, t, r, hd, hcall, hc⟩ := systemCall_cases k c σ
    · exact ⟨σ, none, hc, by simp [hd]⟩
    · refine ⟨_, r, hc, fun j hj => List.getElem?_set_ne hj.symm, List.length_set, fun d' hd' => ?own,
        fun d' hd' hr hstep => ?halted⟩
      case own =>
        cases hd.symm.trans hd'
        have hk := (List.getElem?_eq_some_iff.mp hd).1
        exact ⟨t, hcall, List.getElem?_set_self hk, rfl⟩
      case halted =>
        cases hd.symm.trans hd'
        subst hstep
        cases (hostStep_halted (s := joinState d σ.mem) hr).symm.trans hcall
        obtain ⟨hk, rfl⟩ := List.getElem?_eq_some_iff.mp hd
        rw [coreOf_joinState, List.set_getElem_self]
        exact ⟨rfl, rfl⟩
  case launch => simp [systemLaunch, h]

end Sys2Proof.Proofs
end

section
/-! SUPPORT. The statements about reset and runs (70_reset_and_hazards.md): O47, O52 and O53. -/

namespace Sys2Proof.Proofs

open Sys2Proof.Machine

/-- Settles O47: memory with nothing listed has the form, and a Running driver is not Halted. -/
theorem resetSatisfiesInvariant : Obligations.ResetSatisfiesInvariant :=
  ⟨⟨reset_mem_wf, nofun⟩, rfl⟩

/-- Settles O52: `reset` is one update of the state, and it reads the two bytes of its vector. -/
theorem resetCallResult : Obligations.ResetCallResult := fun _ _ => ⟨rfl, rfl⟩

/-- Settles O53: a launch is a reset, and a run is the run of its steps from the launch's start. -/
theorem stateResetIsALaunch : Obligations.StateResetIsALaunch := by
  refine ⟨⟨rfl, fun _ _ _ => ⟨rfl, rfl, rfl, rfl, rfl⟩⟩, fun l n e t h => ?ended, fun _ _ _ => runSteps_going,
    fun l n e t hl => ?first⟩
  case ended =>
    obtain ⟨hend, hmore⟩ := runSteps_ended h
    exact ⟨(runEnd_eq_some_iff_isEnd _ e t).mp hend, hmore⟩
  case first =>
    rw [Launch.run, hl]
    exact runSteps_nil_ended_iff l.endPc e t n l.start

end Sys2Proof.Proofs
end
